-- ==== Sys2Proof/Word.lean ====
section
/-! DEFINITION. The two word types of the core: 8-bit data and 16-bit addresses and pairs (R10; 00_scope.md, section 4).
Values are held modulo their width by the type itself, as R10 asks. -/

namespace Sys2Proof

/-- An 8-bit value: a register, a byte of the bus, an immediate (00_scope.md, section 4: data width). -/
abbrev Byte := BitVec 8

/-- A 16-bit value: SP, PC, a register pair, an address (00_scope.md, section 4: address width). -/
abbrev Word := BitVec 16

end Sys2Proof
end

