-- ==== Sys2Proof/Machine/Bits.lean ====
section
/-! DEFINITION. Byte order, extension and flag-bit helpers (00_scope.md, section 5; R14, R16, R33). -/

namespace Sys2Proof

/-- A 16-bit value from its two halves: `(hi << 8) | lo` (R14, R33). -/
def joinBytes (hi lo : Byte) : Word := hi ++ lo

/-- `v[15:8]` (R14). -/
def highByte (v : Word) : Byte := v.extractLsb' 8 8

/-- `v[7:0]` (R14). -/
def lowByte (v : Word) : Byte := v.extractLsb' 0 8

/-- `zext_16(v)` (00_scope.md, section 5). -/
def zext16 (v : Byte) : Word := v.zeroExtend 16

/-- `sext_16(v)` (00_scope.md, section 5). -/
def sext16 (v : Byte) : Word := v.signExtend 16

/-- The four flags of F (R16). -/
inductive Flag where
  | z
  | n
  | h
  | c
  deriving DecidableEq, Repr

/-- The bit of F that holds a flag: Z, N, H, C are bits 7, 6, 5, 4 (R16). -/
def Flag.bit : Flag → Nat
  | .z => 7
  | .n => 6
  | .h => 5
  | .c => 4

/-- One bit of a byte, `v[i]` (00_scope.md, section 5). -/
def bitAt (v : Byte) (i : Nat) : Bool := v.getLsbD i

/-- The byte with only bit `i` set, `1 << i`. -/
def oneBit (i : Nat) : Byte := 1#8 <<< i

/-- `v & ~(1 << i)` (R133). -/
def clearBit (v : Byte) (i : Nat) : Byte := v &&& ~~~ oneBit i

/-- `v | (1 << i)` (R135). -/
def setBit (v : Byte) (i : Nat) : Byte := v ||| oneBit i

/-- `F.k <- b`: writes one bit and leaves the other bits of the byte unchanged (R16; 00_scope.md, section 5). -/
def putBit (v : Byte) (i : Nat) (b : Bool) : Byte := if b then setBit v i else clearBit v i

/-- A Bool as the 8-bit value 0 or 1 (a carry-in). -/
def bit8 (b : Bool) : Byte := if b then 1#8 else 0#8

end Sys2Proof
end

