-- ==== Sys2Proof/Syntax.lean ====
section
/-! DEFINITION. The instructions as syntax: one constructor per row of spec/opcode_table.json (R12, R55, R57), grouped by the
rule that gives the row its meaning (the rows with operand bytes first: Lean's compiler gives a constructor with fields one of
the first 244 places only), and the names of the operands (R48 to R53). An immediate is kept as the raw byte or
the little-endian word that stands in the instruction (R54). -/

namespace Sys2Proof

/-- The 8-bit registers an `r` code can name: codes 0 to 5 and 7 (R50). -/
inductive R8 where
  | b
  | c
  | d
  | e
  | h
  | l
  | a
  deriving DecidableEq, Repr

/-- The pairs of the table `reg16sp` (R51). -/
inductive Pair where
  | bc
  | de
  | hl
  | sp
  deriving DecidableEq, Repr

/-- The pairs of the table `reg16af` (R51). -/
inductive StackPair where
  | bc
  | de
  | hl
  | af
  deriving DecidableEq, Repr

/-- The conditions of a jump, call or return (R52). -/
inductive Cond where
  | nz
  | z
  | nc
  | c
  deriving DecidableEq, Repr

/-- The 8-bit accumulator operations (R53). -/
inductive AluOp where
  | add
  | adc
  | sub
  | sbc
  | and
  | xor
  | or
  | cp
  deriving DecidableEq, Repr

/-- The CB rotates, shifts and the nibble swap (R53, R114). -/
inductive ShiftOp where
  | rlc
  | rrc
  | rl
  | rr
  | sla
  | sra
  | swap
  | srl
  deriving DecidableEq, Repr

/-- The bit number of BIT, RES and SET (R49, R131). -/
inductive BitNumber where
  | b0
  | b1
  | b2
  | b3
  | b4
  | b5
  | b6
  | b7
  deriving DecidableEq, Repr

/-- The eight targets of RST, named by the low byte of the address (R178). -/
inductive RstTarget where
  | t00
  | t08
  | t10
  | t18
  | t20
  | t28
  | t30
  | t38
  deriving DecidableEq, Repr

/-- The eleven illegal base opcodes, named by their byte (R56). -/
inductive IllegalOp where
  | xD3
  | xDB
  | xDD
  | xE3
  | xE4
  | xEB
  | xEC
  | xED
  | xF4
  | xFC
  | xFD
  deriving DecidableEq, Repr

/-- The instructions (R55, R57). -/
inductive Instr where
  -- THE ROWS WITH OPERAND BYTES
  -- R72: ADD A,n8
  | addAN8 (n : Byte)
  -- R75: ADC A,n8
  | adcAN8 (n : Byte)
  -- R78: SUB n8
  | subN8 (n : Byte)
  -- R81: SBC A,n8
  | sbcAN8 (n : Byte)
  -- R84: AND n8
  | andN8 (n : Byte)
  -- R87: XOR n8
  | xorN8 (n : Byte)
  -- R90: OR n8
  | orN8 (n : Byte)
  -- R93: CP n8
  | cpN8 (n : Byte)
  -- R108: ADD SP,e8
  | addSpE8 (e : Byte)
  -- R142: LD r,n8
  | ldBN8 (n : Byte)
  | ldCN8 (n : Byte)
  | ldDN8 (n : Byte)
  | ldEN8 (n : Byte)
  | ldHN8 (n : Byte)
  | ldLN8 (n : Byte)
  | ldAN8 (n : Byte)
  -- R145: LD (HL),n8
  | ldAtHlN8 (n : Byte)
  -- R150: LD A,(a16)
  | ldAAtA16 (a : Word)
  -- R151: LD (a16),A
  | ldAtA16A (a : Word)
  -- R154: LDH A,(a8)
  | ldhAAtA8 (o : Byte)
  -- R155: LDH (a8),A
  | ldhAtA8A (o : Byte)
  -- R162: LD rr,n16
  | ldBcN16 (n : Word)
  | ldDeN16 (n : Word)
  | ldHlN16 (n : Word)
  | ldSpN16 (n : Word)
  -- R163: LD (a16),SP
  | ldAtA16Sp (a : Word)
  -- R165: LD HL,SP+e8
  | ldHlSpE8 (e : Byte)
  -- R168: JP a16
  | jpA16 (a : Word)
  -- R169: JP cc,a16
  | jpNzA16 (a : Word)
  | jpZA16 (a : Word)
  | jpNcA16 (a : Word)
  | jpCA16 (a : Word)
  -- R171: JR e8
  | jrE8 (e : Byte)
  -- R172: JR cc,e8
  | jrNzE8 (e : Byte)
  | jrZE8 (e : Byte)
  | jrNcE8 (e : Byte)
  | jrCE8 (e : Byte)
  -- R173: CALL a16
  | callA16 (a : Word)
  -- R174: CALL cc,a16
  | callNzA16 (a : Word)
  | callZA16 (a : Word)
  | callNcA16 (a : Word)
  | callCA16 (a : Word)
  -- R182: STOP
  | stop (n : Byte)
  -- R185: PREFIX CB
  | prefixCb (k : Byte)
  -- THE ROWS WITHOUT OPERAND BYTES
  -- R70: ADD A,r
  | addAB
  | addAC
  | addAD
  | addAE
  | addAH
  | addAL
  | addAA
  -- R71: ADD A,(HL)
  | addAAtHl
  -- R73: ADC A,r
  | adcAB
  | adcAC
  | adcAD
  | adcAE
  | adcAH
  | adcAL
  | adcAA
  -- R74: ADC A,(HL)
  | adcAAtHl
  -- R76: SUB r
  | subB
  | subC
  | subD
  | subE
  | subH
  | subL
  | subA
  -- R77: SUB (HL)
  | subAtHl
  -- R79: SBC A,r
  | sbcAB
  | sbcAC
  | sbcAD
  | sbcAE
  | sbcAH
  | sbcAL
  | sbcAA
  -- R80: SBC A,(HL)
  | sbcAAtHl
  -- R82: AND r
  | andB
  | andC
  | andD
  | andE
  | andH
  | andL
  | andA
  -- R83: AND (HL)
  | andAtHl
  -- R85: XOR r
  | xorB
  | xorC
  | xorD
  | xorE
  | xorH
  | xorL
  | xorA
  -- R86: XOR (HL)
  | xorAtHl
  -- R88: OR r
  | orB
  | orC
  | orD
  | orE
  | orH
  | orL
  | orA
  -- R89: OR (HL)
  | orAtHl
  -- R91: CP r
  | cpB
  | cpC
  | cpD
  | cpE
  | cpH
  | cpL
  | cpA
  -- R92: CP (HL)
  | cpAtHl
  -- R94: INC r
  | incB
  | incC
  | incD
  | incE
  | incH
  | incL
  | incA
  -- R95: INC (HL)
  | incAtHl
  -- R96: DEC r
  | decB
  | decC
  | decD
  | decE
  | decH
  | decL
  | decA
  -- R97: DEC (HL)
  | decAtHl
  -- R98: DAA
  | daa
  -- R99: CPL
  | cpl
  -- R100: SCF
  | scf
  -- R101: CCF
  | ccf
  -- R105: ADD HL,rr
  | addHlBc
  | addHlDe
  | addHlHl
  | addHlSp
  -- R106: INC rr
  | incBc
  | incDe
  | incHl
  | incSp
  -- R107: DEC rr
  | decBc
  | decDe
  | decHl
  | decSp
  -- R110: RLCA
  | rlca
  -- R111: RRCA
  | rrca
  -- R112: RLA
  | rla
  -- R113: RRA
  | rra
  -- R115: RLC r
  | rlcB
  | rlcC
  | rlcD
  | rlcE
  | rlcH
  | rlcL
  | rlcA
  -- R116: RLC (HL)
  | rlcAtHl
  -- R117: RRC r
  | rrcB
  | rrcC
  | rrcD
  | rrcE
  | rrcH
  | rrcL
  | rrcA
  -- R118: RRC (HL)
  | rrcAtHl
  -- R119: RL r
  | rlB
  | rlC
  | rlD
  | rlE
  | rlH
  | rlL
  | rlA
  -- R120: RL (HL)
  | rlAtHl
  -- R121: RR r
  | rrB
  | rrC
  | rrD
  | rrE
  | rrH
  | rrL
  | rrA
  -- R122: RR (HL)
  | rrAtHl
  -- R123: SLA r
  | slaB
  | slaC
  | slaD
  | slaE
  | slaH
  | slaL
  | slaA
  -- R124: SLA (HL)
  | slaAtHl
  -- R125: SRA r
  | sraB
  | sraC
  | sraD
  | sraE
  | sraH
  | sraL
  | sraA
  -- R126: SRA (HL)
  | sraAtHl
  -- R127: SWAP r
  | swapB
  | swapC
  | swapD
  | swapE
  | swapH
  | swapL
  | swapA
  -- R128: SWAP (HL)
  | swapAtHl
  -- R129: SRL r
  | srlB
  | srlC
  | srlD
  | srlE
  | srlH
  | srlL
  | srlA
  -- R130: SRL (HL)
  | srlAtHl
  -- R131: BIT b,r
  | bit0B
  | bit0C
  | bit0D
  | bit0E
  | bit0H
  | bit0L
  | bit0A
  | bit1B
  | bit1C
  | bit1D
  | bit1E
  | bit1H
  | bit1L
  | bit1A
  | bit2B
  | bit2C
  | bit2D
  | bit2E
  | bit2H
  | bit2L
  | bit2A
  | bit3B
  | bit3C
  | bit3D
  | bit3E
  | bit3H
  | bit3L
  | bit3A
  | bit4B
  | bit4C
  | bit4D
  | bit4E
  | bit4H
  | bit4L
  | bit4A
  | bit5B
  | bit5C
  | bit5D
  | bit5E
  | bit5H
  | bit5L
  | bit5A
  | bit6B
  | bit6C
  | bit6D
  | bit6E
  | bit6H
  | bit6L
  | bit6A
  | bit7B
  | bit7C
  | bit7D
  | bit7E
  | bit7H
  | bit7L
  | bit7A
  -- R132: BIT b,(HL)
  | bit0AtHl
  | bit1AtHl
  | bit2AtHl
  | bit3AtHl
  | bit4AtHl
  | bit5AtHl
  | bit6AtHl
  | bit7AtHl
  -- R133: RES b,r
  | res0B
  | res0C
  | res0D
  | res0E
  | res0H
  | res0L
  | res0A
  | res1B
  | res1C
  | res1D
  | res1E
  | res1H
  | res1L
  | res1A
  | res2B
  | res2C
  | res2D
  | res2E
  | res2H
  | res2L
  | res2A
  | res3B
  | res3C
  | res3D
  | res3E
  | res3H
  | res3L
  | res3A
  | res4B
  | res4C
  | res4D
  | res4E
  | res4H
  | res4L
  | res4A
  | res5B
  | res5C
  | res5D
  | res5E
  | res5H
  | res5L
  | res5A
  | res6B
  | res6C
  | res6D
  | res6E
  | res6H
  | res6L
  | res6A
  | res7B
  | res7C
  | res7D
  | res7E
  | res7H
  | res7L
  | res7A
  -- R134: RES b,(HL)
  | res0AtHl
  | res1AtHl
  | res2AtHl
  | res3AtHl
  | res4AtHl
  | res5AtHl
  | res6AtHl
  | res7AtHl
  -- R135: SET b,r
  | set0B
  | set0C
  | set0D
  | set0E
  | set0H
  | set0L
  | set0A
  | set1B
  | set1C
  | set1D
  | set1E
  | set1H
  | set1L
  | set1A
  | set2B
  | set2C
  | set2D
  | set2E
  | set2H
  | set2L
  | set2A
  | set3B
  | set3C
  | set3D
  | set3E
  | set3H
  | set3L
  | set3A
  | set4B
  | set4C
  | set4D
  | set4E
  | set4H
  | set4L
  | set4A
  | set5B
  | set5C
  | set5D
  | set5E
  | set5H
  | set5L
  | set5A
  | set6B
  | set6C
  | set6D
  | set6E
  | set6H
  | set6L
  | set6A
  | set7B
  | set7C
  | set7D
  | set7E
  | set7H
  | set7L
  | set7A
  -- R136: SET b,(HL)
  | set0AtHl
  | set1AtHl
  | set2AtHl
  | set3AtHl
  | set4AtHl
  | set5AtHl
  | set6AtHl
  | set7AtHl
  -- R141: LD r,r'
  | ldBB
  | ldBC
  | ldBD
  | ldBE
  | ldBH
  | ldBL
  | ldBA
  | ldCB
  | ldCC
  | ldCD
  | ldCE
  | ldCH
  | ldCL
  | ldCA
  | ldDB
  | ldDC
  | ldDD
  | ldDE
  | ldDH
  | ldDL
  | ldDA
  | ldEB
  | ldEC
  | ldED
  | ldEE
  | ldEH
  | ldEL
  | ldEA
  | ldHB
  | ldHC
  | ldHD
  | ldHE
  | ldHH
  | ldHL
  | ldHA
  | ldLB
  | ldLC
  | ldLD
  | ldLE
  | ldLH
  | ldLL
  | ldLA
  | ldAB
  | ldAC
  | ldAD
  | ldAE
  | ldAH
  | ldAL
  | ldAA
  -- R143: LD r,(HL)
  | ldBAtHl
  | ldCAtHl
  | ldDAtHl
  | ldEAtHl
  | ldHAtHl
  | ldLAtHl
  | ldAAtHl
  -- R144: LD (HL),r
  | ldAtHlB
  | ldAtHlC
  | ldAtHlD
  | ldAtHlE
  | ldAtHlH
  | ldAtHlL
  | ldAtHlA
  -- R146: LD A,(BC)
  | ldAAtBc
  -- R147: LD A,(DE)
  | ldAAtDe
  -- R148: LD (BC),A
  | ldAtBcA
  -- R149: LD (DE),A
  | ldAtDeA
  -- R152: LDH A,(C)
  | ldhAAtC
  -- R153: LDH (C),A
  | ldhAtCA
  -- R156: LD A,(HL-)
  | ldAAtHld
  -- R157: LD (HL-),A
  | ldAtHldA
  -- R158: LD A,(HL+)
  | ldAAtHli
  -- R159: LD (HL+),A
  | ldAtHliA
  -- R164: LD SP,HL
  | ldSpHl
  -- R166: PUSH rr
  | pushBc
  | pushDe
  | pushHl
  | pushAf
  -- R167: POP rr
  | popBc
  | popDe
  | popHl
  | popAf
  -- R170: JP HL
  | jpHl
  -- R175: RET
  | ret
  -- R176: RET cc
  | retNz
  | retZ
  | retNc
  | retC
  -- R177: RETI
  | reti
  -- R178: RST n
  | rst00
  | rst08
  | rst10
  | rst18
  | rst20
  | rst28
  | rst30
  | rst38
  -- R180: NOP
  | nop
  -- R181: HALT
  | halt
  -- R183: DI
  | di
  -- R184: EI
  | ei
  -- R186: ILLEGAL
  | illegalD3
  | illegalDB
  | illegalDD
  | illegalE3
  | illegalE4
  | illegalEB
  | illegalEC
  | illegalED
  | illegalF4
  | illegalFC
  | illegalFD
  deriving DecidableEq, Repr

end Sys2Proof
end

