-- ==== Sys2Proof/Decode.lean ====
section
/-! DEFINITION. The decoder (30_encoding.md): the lengths of R59, the opcode maps of R55 and R57 row by row, decoding of a list of
bytes that rejects by name, and the encoder, written from the encoding line of each instruction's own rule. -/

namespace Sys2Proof

/-! ### Lengths -/

/-- The opcodes of the 3-byte instructions (R59). -/
def threeByteOpcodes : List Byte :=
  [0x01, 0x08, 0x11, 0x21, 0x31, 0xC2, 0xC3, 0xC4, 0xCA, 0xCC, 0xCD, 0xD2, 0xD4, 0xDA, 0xDC, 0xEA, 0xFA]

/-- The opcodes of the 2-byte instructions, the prefix among them (R59). -/
def twoByteOpcodes : List Byte :=
  [0x06, 0x0E, 0x10, 0x16, 0x18, 0x1E, 0x20, 0x26, 0x28, 0x2E, 0x30, 0x36, 0x38, 0x3E] ++
  [0xC6, 0xCB, 0xCE, 0xD6, 0xDE, 0xE0, 0xE6, 0xE8, 0xEE, 0xF0, 0xF6, 0xF8, 0xFE]

/-- LENGTH(op): the length of an instruction, decided by its first byte alone (R59). -/
def instrLength (op : Byte) : Nat :=
  if op ∈ threeByteOpcodes then 3 else if op ∈ twoByteOpcodes then 2 else 1

/-- The eleven illegal base opcodes (R56). -/
def illegalOpcodes : List Byte := [0xD3, 0xDB, 0xDD, 0xE3, 0xE4, 0xEB, 0xEC, 0xED, 0xF4, 0xFC, 0xFD]

/-! ### The maps -/

/-- An entry of the base map: the instruction, given the two bytes after the opcode, of which an instruction takes as
many as its length says (R54). -/
abbrev BaseEntry := Byte → Byte → Instr

/-- Row 0x of the CB map (R57). -/
def secondaryRow0 : List Instr :=
  [.rlcB, .rlcC, .rlcD, .rlcE, .rlcH, .rlcL, .rlcAtHl, .rlcA,
   .rrcB, .rrcC, .rrcD, .rrcE, .rrcH, .rrcL, .rrcAtHl, .rrcA]

/-- Row 1x of the CB map (R57). -/
def secondaryRow1 : List Instr :=
  [.rlB, .rlC, .rlD, .rlE, .rlH, .rlL, .rlAtHl, .rlA,
   .rrB, .rrC, .rrD, .rrE, .rrH, .rrL, .rrAtHl, .rrA]

/-- Row 2x of the CB map (R57). -/
def secondaryRow2 : List Instr :=
  [.slaB, .slaC, .slaD, .slaE, .slaH, .slaL, .slaAtHl, .slaA,
   .sraB, .sraC, .sraD, .sraE, .sraH, .sraL, .sraAtHl, .sraA]

/-- Row 3x of the CB map (R57). -/
def secondaryRow3 : List Instr :=
  [.swapB, .swapC, .swapD, .swapE, .swapH, .swapL, .swapAtHl, .swapA,
   .srlB, .srlC, .srlD, .srlE, .srlH, .srlL, .srlAtHl, .srlA]

/-- Row 4x of the CB map (R57). -/
def secondaryRow4 : List Instr :=
  [.bit0B, .bit0C, .bit0D, .bit0E, .bit0H, .bit0L, .bit0AtHl, .bit0A,
   .bit1B, .bit1C, .bit1D, .bit1E, .bit1H, .bit1L, .bit1AtHl, .bit1A]

/-- Row 5x of the CB map (R57). -/
def secondaryRow5 : List Instr :=
  [.bit2B, .bit2C, .bit2D, .bit2E, .bit2H, .bit2L, .bit2AtHl, .bit2A,
   .bit3B, .bit3C, .bit3D, .bit3E, .bit3H, .bit3L, .bit3AtHl, .bit3A]

/-- Row 6x of the CB map (R57). -/
def secondaryRow6 : List Instr :=
  [.bit4B, .bit4C, .bit4D, .bit4E, .bit4H, .bit4L, .bit4AtHl, .bit4A,
   .bit5B, .bit5C, .bit5D, .bit5E, .bit5H, .bit5L, .bit5AtHl, .bit5A]

/-- Row 7x of the CB map (R57). -/
def secondaryRow7 : List Instr :=
  [.bit6B, .bit6C, .bit6D, .bit6E, .bit6H, .bit6L, .bit6AtHl, .bit6A,
   .bit7B, .bit7C, .bit7D, .bit7E, .bit7H, .bit7L, .bit7AtHl, .bit7A]

/-- Row 8x of the CB map (R57). -/
def secondaryRow8 : List Instr :=
  [.res0B, .res0C, .res0D, .res0E, .res0H, .res0L, .res0AtHl, .res0A,
   .res1B, .res1C, .res1D, .res1E, .res1H, .res1L, .res1AtHl, .res1A]

/-- Row 9x of the CB map (R57). -/
def secondaryRow9 : List Instr :=
  [.res2B, .res2C, .res2D, .res2E, .res2H, .res2L, .res2AtHl, .res2A,
   .res3B, .res3C, .res3D, .res3E, .res3H, .res3L, .res3AtHl, .res3A]

/-- Row Ax of the CB map (R57). -/
def secondaryRowA : List Instr :=
  [.res4B, .res4C, .res4D, .res4E, .res4H, .res4L, .res4AtHl, .res4A,
   .res5B, .res5C, .res5D, .res5E, .res5H, .res5L, .res5AtHl, .res5A]

/-- Row Bx of the CB map (R57). -/
def secondaryRowB : List Instr :=
  [.res6B, .res6C, .res6D, .res6E, .res6H, .res6L, .res6AtHl, .res6A,
   .res7B, .res7C, .res7D, .res7E, .res7H, .res7L, .res7AtHl, .res7A]

/-- Row Cx of the CB map (R57). -/
def secondaryRowC : List Instr :=
  [.set0B, .set0C, .set0D, .set0E, .set0H, .set0L, .set0AtHl, .set0A,
   .set1B, .set1C, .set1D, .set1E, .set1H, .set1L, .set1AtHl, .set1A]

/-- Row Dx of the CB map (R57). -/
def secondaryRowD : List Instr :=
  [.set2B, .set2C, .set2D, .set2E, .set2H, .set2L, .set2AtHl, .set2A,
   .set3B, .set3C, .set3D, .set3E, .set3H, .set3L, .set3AtHl, .set3A]

/-- Row Ex of the CB map (R57). -/
def secondaryRowE : List Instr :=
  [.set4B, .set4C, .set4D, .set4E, .set4H, .set4L, .set4AtHl, .set4A,
   .set5B, .set5C, .set5D, .set5E, .set5H, .set5L, .set5AtHl, .set5A]

/-- Row Fx of the CB map (R57). -/
def secondaryRowF : List Instr :=
  [.set6B, .set6C, .set6D, .set6E, .set6H, .set6L, .set6AtHl, .set6A,
   .set7B, .set7C, .set7D, .set7E, .set7H, .set7L, .set7AtHl, .set7A]

/-- The row of the CB map that the high digit of a secondary opcode selects (R57). -/
def secondaryRow (digit : Nat) : List Instr :=
  match digit with
  | 0 => secondaryRow0
  | 1 => secondaryRow1
  | 2 => secondaryRow2
  | 3 => secondaryRow3
  | 4 => secondaryRow4
  | 5 => secondaryRow5
  | 6 => secondaryRow6
  | 7 => secondaryRow7
  | 8 => secondaryRow8
  | 9 => secondaryRow9
  | 10 => secondaryRowA
  | 11 => secondaryRowB
  | 12 => secondaryRowC
  | 13 => secondaryRowD
  | 14 => secondaryRowE
  | _ => secondaryRowF

/-- The CB lookup: the instruction of a secondary opcode; every row has 16 entries, so the default is never taken
(R57, R185). -/
def decodeSecondary (k : Byte) : Instr := (secondaryRow (k.toNat / 16)).getD (k.toNat % 16) .rlcB

/-- Row 0x of the base map (R55). -/
def baseRow0 : List BaseEntry :=
  [fun _ _ => .nop, fun x y => .ldBcN16 (joinBytes y x), fun _ _ => .ldAtBcA, fun _ _ => .incBc,
   fun _ _ => .incB, fun _ _ => .decB, fun x _ => .ldBN8 x, fun _ _ => .rlca,
   fun x y => .ldAtA16Sp (joinBytes y x), fun _ _ => .addHlBc, fun _ _ => .ldAAtBc, fun _ _ => .decBc,
   fun _ _ => .incC, fun _ _ => .decC, fun x _ => .ldCN8 x, fun _ _ => .rrca]

/-- Row 1x of the base map (R55). -/
def baseRow1 : List BaseEntry :=
  [fun x _ => .stop x, fun x y => .ldDeN16 (joinBytes y x), fun _ _ => .ldAtDeA, fun _ _ => .incDe,
   fun _ _ => .incD, fun _ _ => .decD, fun x _ => .ldDN8 x, fun _ _ => .rla,
   fun x _ => .jrE8 x, fun _ _ => .addHlDe, fun _ _ => .ldAAtDe, fun _ _ => .decDe,
   fun _ _ => .incE, fun _ _ => .decE, fun x _ => .ldEN8 x, fun _ _ => .rra]

/-- Row 2x of the base map (R55). -/
def baseRow2 : List BaseEntry :=
  [fun x _ => .jrNzE8 x, fun x y => .ldHlN16 (joinBytes y x), fun _ _ => .ldAtHliA, fun _ _ => .incHl,
   fun _ _ => .incH, fun _ _ => .decH, fun x _ => .ldHN8 x, fun _ _ => .daa,
   fun x _ => .jrZE8 x, fun _ _ => .addHlHl, fun _ _ => .ldAAtHli, fun _ _ => .decHl,
   fun _ _ => .incL, fun _ _ => .decL, fun x _ => .ldLN8 x, fun _ _ => .cpl]

/-- Row 3x of the base map (R55). -/
def baseRow3 : List BaseEntry :=
  [fun x _ => .jrNcE8 x, fun x y => .ldSpN16 (joinBytes y x), fun _ _ => .ldAtHldA, fun _ _ => .incSp,
   fun _ _ => .incAtHl, fun _ _ => .decAtHl, fun x _ => .ldAtHlN8 x, fun _ _ => .scf,
   fun x _ => .jrCE8 x, fun _ _ => .addHlSp, fun _ _ => .ldAAtHld, fun _ _ => .decSp,
   fun _ _ => .incA, fun _ _ => .decA, fun x _ => .ldAN8 x, fun _ _ => .ccf]

/-- Row 4x of the base map (R55). -/
def baseRow4 : List BaseEntry :=
  [fun _ _ => .ldBB, fun _ _ => .ldBC, fun _ _ => .ldBD, fun _ _ => .ldBE,
   fun _ _ => .ldBH, fun _ _ => .ldBL, fun _ _ => .ldBAtHl, fun _ _ => .ldBA,
   fun _ _ => .ldCB, fun _ _ => .ldCC, fun _ _ => .ldCD, fun _ _ => .ldCE,
   fun _ _ => .ldCH, fun _ _ => .ldCL, fun _ _ => .ldCAtHl, fun _ _ => .ldCA]

/-- Row 5x of the base map (R55). -/
def baseRow5 : List BaseEntry :=
  [fun _ _ => .ldDB, fun _ _ => .ldDC, fun _ _ => .ldDD, fun _ _ => .ldDE,
   fun _ _ => .ldDH, fun _ _ => .ldDL, fun _ _ => .ldDAtHl, fun _ _ => .ldDA,
   fun _ _ => .ldEB, fun _ _ => .ldEC, fun _ _ => .ldED, fun _ _ => .ldEE,
   fun _ _ => .ldEH, fun _ _ => .ldEL, fun _ _ => .ldEAtHl, fun _ _ => .ldEA]

/-- Row 6x of the base map (R55). -/
def baseRow6 : List BaseEntry :=
  [fun _ _ => .ldHB, fun _ _ => .ldHC, fun _ _ => .ldHD, fun _ _ => .ldHE,
   fun _ _ => .ldHH, fun _ _ => .ldHL, fun _ _ => .ldHAtHl, fun _ _ => .ldHA,
   fun _ _ => .ldLB, fun _ _ => .ldLC, fun _ _ => .ldLD, fun _ _ => .ldLE,
   fun _ _ => .ldLH, fun _ _ => .ldLL, fun _ _ => .ldLAtHl, fun _ _ => .ldLA]

/-- Row 7x of the base map (R55). -/
def baseRow7 : List BaseEntry :=
  [fun _ _ => .ldAtHlB, fun _ _ => .ldAtHlC, fun _ _ => .ldAtHlD, fun _ _ => .ldAtHlE,
   fun _ _ => .ldAtHlH, fun _ _ => .ldAtHlL, fun _ _ => .halt, fun _ _ => .ldAtHlA,
   fun _ _ => .ldAB, fun _ _ => .ldAC, fun _ _ => .ldAD, fun _ _ => .ldAE,
   fun _ _ => .ldAH, fun _ _ => .ldAL, fun _ _ => .ldAAtHl, fun _ _ => .ldAA]

/-- Row 8x of the base map (R55). -/
def baseRow8 : List BaseEntry :=
  [fun _ _ => .addAB, fun _ _ => .addAC, fun _ _ => .addAD, fun _ _ => .addAE,
   fun _ _ => .addAH, fun _ _ => .addAL, fun _ _ => .addAAtHl, fun _ _ => .addAA,
   fun _ _ => .adcAB, fun _ _ => .adcAC, fun _ _ => .adcAD, fun _ _ => .adcAE,
   fun _ _ => .adcAH, fun _ _ => .adcAL, fun _ _ => .adcAAtHl, fun _ _ => .adcAA]

/-- Row 9x of the base map (R55). -/
def baseRow9 : List BaseEntry :=
  [fun _ _ => .subB, fun _ _ => .subC, fun _ _ => .subD, fun _ _ => .subE,
   fun _ _ => .subH, fun _ _ => .subL, fun _ _ => .subAtHl, fun _ _ => .subA,
   fun _ _ => .sbcAB, fun _ _ => .sbcAC, fun _ _ => .sbcAD, fun _ _ => .sbcAE,
   fun _ _ => .sbcAH, fun _ _ => .sbcAL, fun _ _ => .sbcAAtHl, fun _ _ => .sbcAA]

/-- Row Ax of the base map (R55). -/
def baseRowA : List BaseEntry :=
  [fun _ _ => .andB, fun _ _ => .andC, fun _ _ => .andD, fun _ _ => .andE,
   fun _ _ => .andH, fun _ _ => .andL, fun _ _ => .andAtHl, fun _ _ => .andA,
   fun _ _ => .xorB, fun _ _ => .xorC, fun _ _ => .xorD, fun _ _ => .xorE,
   fun _ _ => .xorH, fun _ _ => .xorL, fun _ _ => .xorAtHl, fun _ _ => .xorA]

/-- Row Bx of the base map (R55). -/
def baseRowB : List BaseEntry :=
  [fun _ _ => .orB, fun _ _ => .orC, fun _ _ => .orD, fun _ _ => .orE,
   fun _ _ => .orH, fun _ _ => .orL, fun _ _ => .orAtHl, fun _ _ => .orA,
   fun _ _ => .cpB, fun _ _ => .cpC, fun _ _ => .cpD, fun _ _ => .cpE,
   fun _ _ => .cpH, fun _ _ => .cpL, fun _ _ => .cpAtHl, fun _ _ => .cpA]

/-- Row Cx of the base map (R55). -/
def baseRowC : List BaseEntry :=
  [fun _ _ => .retNz, fun _ _ => .popBc, fun x y => .jpNzA16 (joinBytes y x), fun x y => .jpA16 (joinBytes y x),
   fun x y => .callNzA16 (joinBytes y x), fun _ _ => .pushBc, fun x _ => .addAN8 x, fun _ _ => .rst00,
   fun _ _ => .retZ, fun _ _ => .ret, fun x y => .jpZA16 (joinBytes y x), fun x _ => decodeSecondary x,
   fun x y => .callZA16 (joinBytes y x), fun x y => .callA16 (joinBytes y x), fun x _ => .adcAN8 x, fun _ _ => .rst08]

/-- Row Dx of the base map (R55). -/
def baseRowD : List BaseEntry :=
  [fun _ _ => .retNc, fun _ _ => .popDe, fun x y => .jpNcA16 (joinBytes y x), fun _ _ => .illegalD3,
   fun x y => .callNcA16 (joinBytes y x), fun _ _ => .pushDe, fun x _ => .subN8 x, fun _ _ => .rst10,
   fun _ _ => .retC, fun _ _ => .reti, fun x y => .jpCA16 (joinBytes y x), fun _ _ => .illegalDB,
   fun x y => .callCA16 (joinBytes y x), fun _ _ => .illegalDD, fun x _ => .sbcAN8 x, fun _ _ => .rst18]

/-- Row Ex of the base map (R55). -/
def baseRowE : List BaseEntry :=
  [fun x _ => .ldhAtA8A x, fun _ _ => .popHl, fun _ _ => .ldhAtCA, fun _ _ => .illegalE3,
   fun _ _ => .illegalE4, fun _ _ => .pushHl, fun x _ => .andN8 x, fun _ _ => .rst20,
   fun x _ => .addSpE8 x, fun _ _ => .jpHl, fun x y => .ldAtA16A (joinBytes y x), fun _ _ => .illegalEB,
   fun _ _ => .illegalEC, fun _ _ => .illegalED, fun x _ => .xorN8 x, fun _ _ => .rst28]

/-- Row Fx of the base map (R55). -/
def baseRowF : List BaseEntry :=
  [fun x _ => .ldhAAtA8 x, fun _ _ => .popAf, fun _ _ => .ldhAAtC, fun _ _ => .di,
   fun _ _ => .illegalF4, fun _ _ => .pushAf, fun x _ => .orN8 x, fun _ _ => .rst30,
   fun x _ => .ldHlSpE8 x, fun _ _ => .ldSpHl, fun x y => .ldAAtA16 (joinBytes y x), fun _ _ => .ei,
   fun _ _ => .illegalFC, fun _ _ => .illegalFD, fun x _ => .cpN8 x, fun _ _ => .rst38]

/-- The row of the base map that the high digit of an opcode selects (R55). -/
def baseRow (digit : Nat) : List BaseEntry :=
  match digit with
  | 0 => baseRow0
  | 1 => baseRow1
  | 2 => baseRow2
  | 3 => baseRow3
  | 4 => baseRow4
  | 5 => baseRow5
  | 6 => baseRow6
  | 7 => baseRow7
  | 8 => baseRow8
  | 9 => baseRow9
  | 10 => baseRowA
  | 11 => baseRowB
  | 12 => baseRowC
  | 13 => baseRowD
  | 14 => baseRowE
  | _ => baseRowF

/-- The base lookup: the instruction of an opcode and the two bytes after it; 0xCB looks the next byte up in the CB
map; every row has 16 entries, so the default is never taken (R55, R57). -/
def decodeBytes (op x y : Byte) : Instr := (baseRow (op.toNat / 16)).getD (op.toNat % 16) (fun _ _ => .nop) x y

/-! ### Decoding a list of bytes -/

/-- Why a list of bytes is no instruction: every opcode is one (R58), so only missing bytes are rejected. -/
inductive DecodeError where
  /-- There is no byte at all. -/
  | noBytes
  /-- The instruction of this opcode has more bytes than are there. -/
  | missingOperand (opcode : Byte)
  deriving DecidableEq, Repr

/-- The instruction at the front of a list of bytes and the bytes after it (R46, R47, R59). -/
def decode : List Byte → Except DecodeError (Instr × List Byte)
  | [] => .error .noBytes
  | op :: rest =>
    if instrLength op = 1 then .ok (decodeBytes op 0 0, rest)
    else if instrLength op = 2 then
      match rest with
      | x :: rest => .ok (decodeBytes op x 0, rest)
      | [] => .error (.missingOperand op)
    else
      match rest with
      | x :: y :: rest => .ok (decodeBytes op x y, rest)
      | _ => .error (.missingOperand op)

/-- The bytes of an opcode-table word in the order the hardware stores them, padded with zeros to the longest
instruction. The table writes a CB row as the 16-bit number 0xCBkk, the prefix in the high byte, and the prefix is
the first byte (R46); in every other word bits 7..0 are the first byte (log entry 9). -/
def tableBytes (nbits w : Nat) : List Byte :=
  let v := w % 2 ^ nbits
  if nbits = 16 ∧ v / 256 = 0xCB then [0xCB#8, BitVec.ofNat 8 v, 0#8]
  else [BitVec.ofNat 8 v, BitVec.ofNat 8 (v / 256), BitVec.ofNat 8 (v / 65536)]

/-- The instruction the decoder reads from an opcode-table word. -/
def decodeTableWord (nbits w : Nat) : Option Instr :=
  match decode (tableBytes nbits w) with
  | .ok (i, _) => some i
  | .error _ => none

/-! ### Encoding -/

/-- The 3-bit code of a register (R50). -/
def r8Code : R8 → Byte
  | .b => 0
  | .c => 1
  | .d => 2
  | .e => 3
  | .h => 4
  | .l => 5
  | .a => 7

/-- The 3-bit code of the byte at HL (R50). -/
def atHlCode : Byte := 6

/-- The 2-bit code of a pair in `reg16sp` (R51). -/
def pairCode : Pair → Byte
  | .bc => 0
  | .de => 1
  | .hl => 2
  | .sp => 3

/-- The 2-bit code of a pair in `reg16af` (R51). -/
def stackPairCode : StackPair → Byte
  | .bc => 0
  | .de => 1
  | .hl => 2
  | .af => 3

/-- The 2-bit code of a condition (R52). -/
def condCode : Cond → Byte
  | .nz => 0
  | .z => 1
  | .nc => 2
  | .c => 3

/-- The opcode of an instruction without operand bytes. -/
def opOnly (op : Byte) : List Byte := [op]

/-- An opcode and one operand byte (R46). -/
def opByte (op n : Byte) : List Byte := [op, n]

/-- An opcode and a little-endian operand word (R46, R54). -/
def opWord (op : Byte) (n : Word) : List Byte := [op, lowByte n, highByte n]

/-- The prefix and a secondary opcode (R46). -/
def cbPair (k : Byte) : List Byte := [0xCB, k]

/-- The words of an instruction, by the encoding line of its rule. -/
def encode : Instr → List Byte
  -- R70: ADD A,r
  | .addAB => opOnly (0x80 + r8Code .b)
  | .addAC => opOnly (0x80 + r8Code .c)
  | .addAD => opOnly (0x80 + r8Code .d)
  | .addAE => opOnly (0x80 + r8Code .e)
  | .addAH => opOnly (0x80 + r8Code .h)
  | .addAL => opOnly (0x80 + r8Code .l)
  | .addAA => opOnly (0x80 + r8Code .a)
  -- R71: ADD A,(HL)
  | .addAAtHl => opOnly 0x86
  -- R72: ADD A,n8
  | .addAN8 n => opByte 0xC6 n
  -- R73: ADC A,r
  | .adcAB => opOnly (0x88 + r8Code .b)
  | .adcAC => opOnly (0x88 + r8Code .c)
  | .adcAD => opOnly (0x88 + r8Code .d)
  | .adcAE => opOnly (0x88 + r8Code .e)
  | .adcAH => opOnly (0x88 + r8Code .h)
  | .adcAL => opOnly (0x88 + r8Code .l)
  | .adcAA => opOnly (0x88 + r8Code .a)
  -- R74: ADC A,(HL)
  | .adcAAtHl => opOnly 0x8E
  -- R75: ADC A,n8
  | .adcAN8 n => opByte 0xCE n
  -- R76: SUB r
  | .subB => opOnly (0x90 + r8Code .b)
  | .subC => opOnly (0x90 + r8Code .c)
  | .subD => opOnly (0x90 + r8Code .d)
  | .subE => opOnly (0x90 + r8Code .e)
  | .subH => opOnly (0x90 + r8Code .h)
  | .subL => opOnly (0x90 + r8Code .l)
  | .subA => opOnly (0x90 + r8Code .a)
  -- R77: SUB (HL)
  | .subAtHl => opOnly 0x96
  -- R78: SUB n8
  | .subN8 n => opByte 0xD6 n
  -- R79: SBC A,r
  | .sbcAB => opOnly (0x98 + r8Code .b)
  | .sbcAC => opOnly (0x98 + r8Code .c)
  | .sbcAD => opOnly (0x98 + r8Code .d)
  | .sbcAE => opOnly (0x98 + r8Code .e)
  | .sbcAH => opOnly (0x98 + r8Code .h)
  | .sbcAL => opOnly (0x98 + r8Code .l)
  | .sbcAA => opOnly (0x98 + r8Code .a)
  -- R80: SBC A,(HL)
  | .sbcAAtHl => opOnly 0x9E
  -- R81: SBC A,n8
  | .sbcAN8 n => opByte 0xDE n
  -- R82: AND r
  | .andB => opOnly (0xA0 + r8Code .b)
  | .andC => opOnly (0xA0 + r8Code .c)
  | .andD => opOnly (0xA0 + r8Code .d)
  | .andE => opOnly (0xA0 + r8Code .e)
  | .andH => opOnly (0xA0 + r8Code .h)
  | .andL => opOnly (0xA0 + r8Code .l)
  | .andA => opOnly (0xA0 + r8Code .a)
  -- R83: AND (HL)
  | .andAtHl => opOnly 0xA6
  -- R84: AND n8
  | .andN8 n => opByte 0xE6 n
  -- R85: XOR r
  | .xorB => opOnly (0xA8 + r8Code .b)
  | .xorC => opOnly (0xA8 + r8Code .c)
  | .xorD => opOnly (0xA8 + r8Code .d)
  | .xorE => opOnly (0xA8 + r8Code .e)
  | .xorH => opOnly (0xA8 + r8Code .h)
  | .xorL => opOnly (0xA8 + r8Code .l)
  | .xorA => opOnly (0xA8 + r8Code .a)
  -- R86: XOR (HL)
  | .xorAtHl => opOnly 0xAE
  -- R87: XOR n8
  | .xorN8 n => opByte 0xEE n
  -- R88: OR r
  | .orB => opOnly (0xB0 + r8Code .b)
  | .orC => opOnly (0xB0 + r8Code .c)
  | .orD => opOnly (0xB0 + r8Code .d)
  | .orE => opOnly (0xB0 + r8Code .e)
  | .orH => opOnly (0xB0 + r8Code .h)
  | .orL => opOnly (0xB0 + r8Code .l)
  | .orA => opOnly (0xB0 + r8Code .a)
  -- R89: OR (HL)
  | .orAtHl => opOnly 0xB6
  -- R90: OR n8
  | .orN8 n => opByte 0xF6 n
  -- R91: CP r
  | .cpB => opOnly (0xB8 + r8Code .b)
  | .cpC => opOnly (0xB8 + r8Code .c)
  | .cpD => opOnly (0xB8 + r8Code .d)
  | .cpE => opOnly (0xB8 + r8Code .e)
  | .cpH => opOnly (0xB8 + r8Code .h)
  | .cpL => opOnly (0xB8 + r8Code .l)
  | .cpA => opOnly (0xB8 + r8Code .a)
  -- R92: CP (HL)
  | .cpAtHl => opOnly 0xBE
  -- R93: CP n8
  | .cpN8 n => opByte 0xFE n
  -- R94: INC r
  | .incB => opOnly (0x04 + 8 * r8Code .b)
  | .incC => opOnly (0x04 + 8 * r8Code .c)
  | .incD => opOnly (0x04 + 8 * r8Code .d)
  | .incE => opOnly (0x04 + 8 * r8Code .e)
  | .incH => opOnly (0x04 + 8 * r8Code .h)
  | .incL => opOnly (0x04 + 8 * r8Code .l)
  | .incA => opOnly (0x04 + 8 * r8Code .a)
  -- R95: INC (HL)
  | .incAtHl => opOnly 0x34
  -- R96: DEC r
  | .decB => opOnly (0x05 + 8 * r8Code .b)
  | .decC => opOnly (0x05 + 8 * r8Code .c)
  | .decD => opOnly (0x05 + 8 * r8Code .d)
  | .decE => opOnly (0x05 + 8 * r8Code .e)
  | .decH => opOnly (0x05 + 8 * r8Code .h)
  | .decL => opOnly (0x05 + 8 * r8Code .l)
  | .decA => opOnly (0x05 + 8 * r8Code .a)
  -- R97: DEC (HL)
  | .decAtHl => opOnly 0x35
  -- R98: DAA
  | .daa => opOnly 0x27
  -- R99: CPL
  | .cpl => opOnly 0x2F
  -- R100: SCF
  | .scf => opOnly 0x37
  -- R101: CCF
  | .ccf => opOnly 0x3F
  -- R105: ADD HL,rr
  | .addHlBc => opOnly (0x09 + 16 * pairCode .bc)
  | .addHlDe => opOnly (0x09 + 16 * pairCode .de)
  | .addHlHl => opOnly (0x09 + 16 * pairCode .hl)
  | .addHlSp => opOnly (0x09 + 16 * pairCode .sp)
  -- R106: INC rr
  | .incBc => opOnly (0x03 + 16 * pairCode .bc)
  | .incDe => opOnly (0x03 + 16 * pairCode .de)
  | .incHl => opOnly (0x03 + 16 * pairCode .hl)
  | .incSp => opOnly (0x03 + 16 * pairCode .sp)
  -- R107: DEC rr
  | .decBc => opOnly (0x0B + 16 * pairCode .bc)
  | .decDe => opOnly (0x0B + 16 * pairCode .de)
  | .decHl => opOnly (0x0B + 16 * pairCode .hl)
  | .decSp => opOnly (0x0B + 16 * pairCode .sp)
  -- R108: ADD SP,e8
  | .addSpE8 e => opByte 0xE8 e
  -- R110: RLCA
  | .rlca => opOnly 0x07
  -- R111: RRCA
  | .rrca => opOnly 0x0F
  -- R112: RLA
  | .rla => opOnly 0x17
  -- R113: RRA
  | .rra => opOnly 0x1F
  -- R115: RLC r
  | .rlcB => cbPair (0x00 + r8Code .b)
  | .rlcC => cbPair (0x00 + r8Code .c)
  | .rlcD => cbPair (0x00 + r8Code .d)
  | .rlcE => cbPair (0x00 + r8Code .e)
  | .rlcH => cbPair (0x00 + r8Code .h)
  | .rlcL => cbPair (0x00 + r8Code .l)
  | .rlcA => cbPair (0x00 + r8Code .a)
  -- R116: RLC (HL)
  | .rlcAtHl => cbPair (0x00 + atHlCode)
  -- R117: RRC r
  | .rrcB => cbPair (0x08 + r8Code .b)
  | .rrcC => cbPair (0x08 + r8Code .c)
  | .rrcD => cbPair (0x08 + r8Code .d)
  | .rrcE => cbPair (0x08 + r8Code .e)
  | .rrcH => cbPair (0x08 + r8Code .h)
  | .rrcL => cbPair (0x08 + r8Code .l)
  | .rrcA => cbPair (0x08 + r8Code .a)
  -- R118: RRC (HL)
  | .rrcAtHl => cbPair (0x08 + atHlCode)
  -- R119: RL r
  | .rlB => cbPair (0x10 + r8Code .b)
  | .rlC => cbPair (0x10 + r8Code .c)
  | .rlD => cbPair (0x10 + r8Code .d)
  | .rlE => cbPair (0x10 + r8Code .e)
  | .rlH => cbPair (0x10 + r8Code .h)
  | .rlL => cbPair (0x10 + r8Code .l)
  | .rlA => cbPair (0x10 + r8Code .a)
  -- R120: RL (HL)
  | .rlAtHl => cbPair (0x10 + atHlCode)
  -- R121: RR r
  | .rrB => cbPair (0x18 + r8Code .b)
  | .rrC => cbPair (0x18 + r8Code .c)
  | .rrD => cbPair (0x18 + r8Code .d)
  | .rrE => cbPair (0x18 + r8Code .e)
  | .rrH => cbPair (0x18 + r8Code .h)
  | .rrL => cbPair (0x18 + r8Code .l)
  | .rrA => cbPair (0x18 + r8Code .a)
  -- R122: RR (HL)
  | .rrAtHl => cbPair (0x18 + atHlCode)
  -- R123: SLA r
  | .slaB => cbPair (0x20 + r8Code .b)
  | .slaC => cbPair (0x20 + r8Code .c)
  | .slaD => cbPair (0x20 + r8Code .d)
  | .slaE => cbPair (0x20 + r8Code .e)
  | .slaH => cbPair (0x20 + r8Code .h)
  | .slaL => cbPair (0x20 + r8Code .l)
  | .slaA => cbPair (0x20 + r8Code .a)
  -- R124: SLA (HL)
  | .slaAtHl => cbPair (0x20 + atHlCode)
  -- R125: SRA r
  | .sraB => cbPair (0x28 + r8Code .b)
  | .sraC => cbPair (0x28 + r8Code .c)
  | .sraD => cbPair (0x28 + r8Code .d)
  | .sraE => cbPair (0x28 + r8Code .e)
  | .sraH => cbPair (0x28 + r8Code .h)
  | .sraL => cbPair (0x28 + r8Code .l)
  | .sraA => cbPair (0x28 + r8Code .a)
  -- R126: SRA (HL)
  | .sraAtHl => cbPair (0x28 + atHlCode)
  -- R127: SWAP r
  | .swapB => cbPair (0x30 + r8Code .b)
  | .swapC => cbPair (0x30 + r8Code .c)
  | .swapD => cbPair (0x30 + r8Code .d)
  | .swapE => cbPair (0x30 + r8Code .e)
  | .swapH => cbPair (0x30 + r8Code .h)
  | .swapL => cbPair (0x30 + r8Code .l)
  | .swapA => cbPair (0x30 + r8Code .a)
  -- R128: SWAP (HL)
  | .swapAtHl => cbPair (0x30 + atHlCode)
  -- R129: SRL r
  | .srlB => cbPair (0x38 + r8Code .b)
  | .srlC => cbPair (0x38 + r8Code .c)
  | .srlD => cbPair (0x38 + r8Code .d)
  | .srlE => cbPair (0x38 + r8Code .e)
  | .srlH => cbPair (0x38 + r8Code .h)
  | .srlL => cbPair (0x38 + r8Code .l)
  | .srlA => cbPair (0x38 + r8Code .a)
  -- R130: SRL (HL)
  | .srlAtHl => cbPair (0x38 + atHlCode)
  -- R131: BIT b,r
  | .bit0B => cbPair (0x40 + 8 * 0 + r8Code .b)
  | .bit0C => cbPair (0x40 + 8 * 0 + r8Code .c)
  | .bit0D => cbPair (0x40 + 8 * 0 + r8Code .d)
  | .bit0E => cbPair (0x40 + 8 * 0 + r8Code .e)
  | .bit0H => cbPair (0x40 + 8 * 0 + r8Code .h)
  | .bit0L => cbPair (0x40 + 8 * 0 + r8Code .l)
  | .bit0A => cbPair (0x40 + 8 * 0 + r8Code .a)
  | .bit1B => cbPair (0x40 + 8 * 1 + r8Code .b)
  | .bit1C => cbPair (0x40 + 8 * 1 + r8Code .c)
  | .bit1D => cbPair (0x40 + 8 * 1 + r8Code .d)
  | .bit1E => cbPair (0x40 + 8 * 1 + r8Code .e)
  | .bit1H => cbPair (0x40 + 8 * 1 + r8Code .h)
  | .bit1L => cbPair (0x40 + 8 * 1 + r8Code .l)
  | .bit1A => cbPair (0x40 + 8 * 1 + r8Code .a)
  | .bit2B => cbPair (0x40 + 8 * 2 + r8Code .b)
  | .bit2C => cbPair (0x40 + 8 * 2 + r8Code .c)
  | .bit2D => cbPair (0x40 + 8 * 2 + r8Code .d)
  | .bit2E => cbPair (0x40 + 8 * 2 + r8Code .e)
  | .bit2H => cbPair (0x40 + 8 * 2 + r8Code .h)
  | .bit2L => cbPair (0x40 + 8 * 2 + r8Code .l)
  | .bit2A => cbPair (0x40 + 8 * 2 + r8Code .a)
  | .bit3B => cbPair (0x40 + 8 * 3 + r8Code .b)
  | .bit3C => cbPair (0x40 + 8 * 3 + r8Code .c)
  | .bit3D => cbPair (0x40 + 8 * 3 + r8Code .d)
  | .bit3E => cbPair (0x40 + 8 * 3 + r8Code .e)
  | .bit3H => cbPair (0x40 + 8 * 3 + r8Code .h)
  | .bit3L => cbPair (0x40 + 8 * 3 + r8Code .l)
  | .bit3A => cbPair (0x40 + 8 * 3 + r8Code .a)
  | .bit4B => cbPair (0x40 + 8 * 4 + r8Code .b)
  | .bit4C => cbPair (0x40 + 8 * 4 + r8Code .c)
  | .bit4D => cbPair (0x40 + 8 * 4 + r8Code .d)
  | .bit4E => cbPair (0x40 + 8 * 4 + r8Code .e)
  | .bit4H => cbPair (0x40 + 8 * 4 + r8Code .h)
  | .bit4L => cbPair (0x40 + 8 * 4 + r8Code .l)
  | .bit4A => cbPair (0x40 + 8 * 4 + r8Code .a)
  | .bit5B => cbPair (0x40 + 8 * 5 + r8Code .b)
  | .bit5C => cbPair (0x40 + 8 * 5 + r8Code .c)
  | .bit5D => cbPair (0x40 + 8 * 5 + r8Code .d)
  | .bit5E => cbPair (0x40 + 8 * 5 + r8Code .e)
  | .bit5H => cbPair (0x40 + 8 * 5 + r8Code .h)
  | .bit5L => cbPair (0x40 + 8 * 5 + r8Code .l)
  | .bit5A => cbPair (0x40 + 8 * 5 + r8Code .a)
  | .bit6B => cbPair (0x40 + 8 * 6 + r8Code .b)
  | .bit6C => cbPair (0x40 + 8 * 6 + r8Code .c)
  | .bit6D => cbPair (0x40 + 8 * 6 + r8Code .d)
  | .bit6E => cbPair (0x40 + 8 * 6 + r8Code .e)
  | .bit6H => cbPair (0x40 + 8 * 6 + r8Code .h)
  | .bit6L => cbPair (0x40 + 8 * 6 + r8Code .l)
  | .bit6A => cbPair (0x40 + 8 * 6 + r8Code .a)
  | .bit7B => cbPair (0x40 + 8 * 7 + r8Code .b)
  | .bit7C => cbPair (0x40 + 8 * 7 + r8Code .c)
  | .bit7D => cbPair (0x40 + 8 * 7 + r8Code .d)
  | .bit7E => cbPair (0x40 + 8 * 7 + r8Code .e)
  | .bit7H => cbPair (0x40 + 8 * 7 + r8Code .h)
  | .bit7L => cbPair (0x40 + 8 * 7 + r8Code .l)
  | .bit7A => cbPair (0x40 + 8 * 7 + r8Code .a)
  -- R132: BIT b,(HL)
  | .bit0AtHl => cbPair (0x46 + 8 * 0)
  | .bit1AtHl => cbPair (0x46 + 8 * 1)
  | .bit2AtHl => cbPair (0x46 + 8 * 2)
  | .bit3AtHl => cbPair (0x46 + 8 * 3)
  | .bit4AtHl => cbPair (0x46 + 8 * 4)
  | .bit5AtHl => cbPair (0x46 + 8 * 5)
  | .bit6AtHl => cbPair (0x46 + 8 * 6)
  | .bit7AtHl => cbPair (0x46 + 8 * 7)
  -- R133: RES b,r
  | .res0B => cbPair (0x80 + 8 * 0 + r8Code .b)
  | .res0C => cbPair (0x80 + 8 * 0 + r8Code .c)
  | .res0D => cbPair (0x80 + 8 * 0 + r8Code .d)
  | .res0E => cbPair (0x80 + 8 * 0 + r8Code .e)
  | .res0H => cbPair (0x80 + 8 * 0 + r8Code .h)
  | .res0L => cbPair (0x80 + 8 * 0 + r8Code .l)
  | .res0A => cbPair (0x80 + 8 * 0 + r8Code .a)
  | .res1B => cbPair (0x80 + 8 * 1 + r8Code .b)
  | .res1C => cbPair (0x80 + 8 * 1 + r8Code .c)
  | .res1D => cbPair (0x80 + 8 * 1 + r8Code .d)
  | .res1E => cbPair (0x80 + 8 * 1 + r8Code .e)
  | .res1H => cbPair (0x80 + 8 * 1 + r8Code .h)
  | .res1L => cbPair (0x80 + 8 * 1 + r8Code .l)
  | .res1A => cbPair (0x80 + 8 * 1 + r8Code .a)
  | .res2B => cbPair (0x80 + 8 * 2 + r8Code .b)
  | .res2C => cbPair (0x80 + 8 * 2 + r8Code .c)
  | .res2D => cbPair (0x80 + 8 * 2 + r8Code .d)
  | .res2E => cbPair (0x80 + 8 * 2 + r8Code .e)
  | .res2H => cbPair (0x80 + 8 * 2 + r8Code .h)
  | .res2L => cbPair (0x80 + 8 * 2 + r8Code .l)
  | .res2A => cbPair (0x80 + 8 * 2 + r8Code .a)
  | .res3B => cbPair (0x80 + 8 * 3 + r8Code .b)
  | .res3C => cbPair (0x80 + 8 * 3 + r8Code .c)
  | .res3D => cbPair (0x80 + 8 * 3 + r8Code .d)
  | .res3E => cbPair (0x80 + 8 * 3 + r8Code .e)
  | .res3H => cbPair (0x80 + 8 * 3 + r8Code .h)
  | .res3L => cbPair (0x80 + 8 * 3 + r8Code .l)
  | .res3A => cbPair (0x80 + 8 * 3 + r8Code .a)
  | .res4B => cbPair (0x80 + 8 * 4 + r8Code .b)
  | .res4C => cbPair (0x80 + 8 * 4 + r8Code .c)
  | .res4D => cbPair (0x80 + 8 * 4 + r8Code .d)
  | .res4E => cbPair (0x80 + 8 * 4 + r8Code .e)
  | .res4H => cbPair (0x80 + 8 * 4 + r8Code .h)
  | .res4L => cbPair (0x80 + 8 * 4 + r8Code .l)
  | .res4A => cbPair (0x80 + 8 * 4 + r8Code .a)
  | .res5B => cbPair (0x80 + 8 * 5 + r8Code .b)
  | .res5C => cbPair (0x80 + 8 * 5 + r8Code .c)
  | .res5D => cbPair (0x80 + 8 * 5 + r8Code .d)
  | .res5E => cbPair (0x80 + 8 * 5 + r8Code .e)
  | .res5H => cbPair (0x80 + 8 * 5 + r8Code .h)
  | .res5L => cbPair (0x80 + 8 * 5 + r8Code .l)
  | .res5A => cbPair (0x80 + 8 * 5 + r8Code .a)
  | .res6B => cbPair (0x80 + 8 * 6 + r8Code .b)
  | .res6C => cbPair (0x80 + 8 * 6 + r8Code .c)
  | .res6D => cbPair (0x80 + 8 * 6 + r8Code .d)
  | .res6E => cbPair (0x80 + 8 * 6 + r8Code .e)
  | .res6H => cbPair (0x80 + 8 * 6 + r8Code .h)
  | .res6L => cbPair (0x80 + 8 * 6 + r8Code .l)
  | .res6A => cbPair (0x80 + 8 * 6 + r8Code .a)
  | .res7B => cbPair (0x80 + 8 * 7 + r8Code .b)
  | .res7C => cbPair (0x80 + 8 * 7 + r8Code .c)
  | .res7D => cbPair (0x80 + 8 * 7 + r8Code .d)
  | .res7E => cbPair (0x80 + 8 * 7 + r8Code .e)
  | .res7H => cbPair (0x80 + 8 * 7 + r8Code .h)
  | .res7L => cbPair (0x80 + 8 * 7 + r8Code .l)
  | .res7A => cbPair (0x80 + 8 * 7 + r8Code .a)
  -- R134: RES b,(HL)
  | .res0AtHl => cbPair (0x86 + 8 * 0)
  | .res1AtHl => cbPair (0x86 + 8 * 1)
  | .res2AtHl => cbPair (0x86 + 8 * 2)
  | .res3AtHl => cbPair (0x86 + 8 * 3)
  | .res4AtHl => cbPair (0x86 + 8 * 4)
  | .res5AtHl => cbPair (0x86 + 8 * 5)
  | .res6AtHl => cbPair (0x86 + 8 * 6)
  | .res7AtHl => cbPair (0x86 + 8 * 7)
  -- R135: SET b,r
  | .set0B => cbPair (0xC0 + 8 * 0 + r8Code .b)
  | .set0C => cbPair (0xC0 + 8 * 0 + r8Code .c)
  | .set0D => cbPair (0xC0 + 8 * 0 + r8Code .d)
  | .set0E => cbPair (0xC0 + 8 * 0 + r8Code .e)
  | .set0H => cbPair (0xC0 + 8 * 0 + r8Code .h)
  | .set0L => cbPair (0xC0 + 8 * 0 + r8Code .l)
  | .set0A => cbPair (0xC0 + 8 * 0 + r8Code .a)
  | .set1B => cbPair (0xC0 + 8 * 1 + r8Code .b)
  | .set1C => cbPair (0xC0 + 8 * 1 + r8Code .c)
  | .set1D => cbPair (0xC0 + 8 * 1 + r8Code .d)
  | .set1E => cbPair (0xC0 + 8 * 1 + r8Code .e)
  | .set1H => cbPair (0xC0 + 8 * 1 + r8Code .h)
  | .set1L => cbPair (0xC0 + 8 * 1 + r8Code .l)
  | .set1A => cbPair (0xC0 + 8 * 1 + r8Code .a)
  | .set2B => cbPair (0xC0 + 8 * 2 + r8Code .b)
  | .set2C => cbPair (0xC0 + 8 * 2 + r8Code .c)
  | .set2D => cbPair (0xC0 + 8 * 2 + r8Code .d)
  | .set2E => cbPair (0xC0 + 8 * 2 + r8Code .e)
  | .set2H => cbPair (0xC0 + 8 * 2 + r8Code .h)
  | .set2L => cbPair (0xC0 + 8 * 2 + r8Code .l)
  | .set2A => cbPair (0xC0 + 8 * 2 + r8Code .a)
  | .set3B => cbPair (0xC0 + 8 * 3 + r8Code .b)
  | .set3C => cbPair (0xC0 + 8 * 3 + r8Code .c)
  | .set3D => cbPair (0xC0 + 8 * 3 + r8Code .d)
  | .set3E => cbPair (0xC0 + 8 * 3 + r8Code .e)
  | .set3H => cbPair (0xC0 + 8 * 3 + r8Code .h)
  | .set3L => cbPair (0xC0 + 8 * 3 + r8Code .l)
  | .set3A => cbPair (0xC0 + 8 * 3 + r8Code .a)
  | .set4B => cbPair (0xC0 + 8 * 4 + r8Code .b)
  | .set4C => cbPair (0xC0 + 8 * 4 + r8Code .c)
  | .set4D => cbPair (0xC0 + 8 * 4 + r8Code .d)
  | .set4E => cbPair (0xC0 + 8 * 4 + r8Code .e)
  | .set4H => cbPair (0xC0 + 8 * 4 + r8Code .h)
  | .set4L => cbPair (0xC0 + 8 * 4 + r8Code .l)
  | .set4A => cbPair (0xC0 + 8 * 4 + r8Code .a)
  | .set5B => cbPair (0xC0 + 8 * 5 + r8Code .b)
  | .set5C => cbPair (0xC0 + 8 * 5 + r8Code .c)
  | .set5D => cbPair (0xC0 + 8 * 5 + r8Code .d)
  | .set5E => cbPair (0xC0 + 8 * 5 + r8Code .e)
  | .set5H => cbPair (0xC0 + 8 * 5 + r8Code .h)
  | .set5L => cbPair (0xC0 + 8 * 5 + r8Code .l)
  | .set5A => cbPair (0xC0 + 8 * 5 + r8Code .a)
  | .set6B => cbPair (0xC0 + 8 * 6 + r8Code .b)
  | .set6C => cbPair (0xC0 + 8 * 6 + r8Code .c)
  | .set6D => cbPair (0xC0 + 8 * 6 + r8Code .d)
  | .set6E => cbPair (0xC0 + 8 * 6 + r8Code .e)
  | .set6H => cbPair (0xC0 + 8 * 6 + r8Code .h)
  | .set6L => cbPair (0xC0 + 8 * 6 + r8Code .l)
  | .set6A => cbPair (0xC0 + 8 * 6 + r8Code .a)
  | .set7B => cbPair (0xC0 + 8 * 7 + r8Code .b)
  | .set7C => cbPair (0xC0 + 8 * 7 + r8Code .c)
  | .set7D => cbPair (0xC0 + 8 * 7 + r8Code .d)
  | .set7E => cbPair (0xC0 + 8 * 7 + r8Code .e)
  | .set7H => cbPair (0xC0 + 8 * 7 + r8Code .h)
  | .set7L => cbPair (0xC0 + 8 * 7 + r8Code .l)
  | .set7A => cbPair (0xC0 + 8 * 7 + r8Code .a)
  -- R136: SET b,(HL)
  | .set0AtHl => cbPair (0xC6 + 8 * 0)
  | .set1AtHl => cbPair (0xC6 + 8 * 1)
  | .set2AtHl => cbPair (0xC6 + 8 * 2)
  | .set3AtHl => cbPair (0xC6 + 8 * 3)
  | .set4AtHl => cbPair (0xC6 + 8 * 4)
  | .set5AtHl => cbPair (0xC6 + 8 * 5)
  | .set6AtHl => cbPair (0xC6 + 8 * 6)
  | .set7AtHl => cbPair (0xC6 + 8 * 7)
  -- R141: LD r,r'
  | .ldBB => opOnly (0x40 + 8 * r8Code .b + r8Code .b)
  | .ldBC => opOnly (0x40 + 8 * r8Code .b + r8Code .c)
  | .ldBD => opOnly (0x40 + 8 * r8Code .b + r8Code .d)
  | .ldBE => opOnly (0x40 + 8 * r8Code .b + r8Code .e)
  | .ldBH => opOnly (0x40 + 8 * r8Code .b + r8Code .h)
  | .ldBL => opOnly (0x40 + 8 * r8Code .b + r8Code .l)
  | .ldBA => opOnly (0x40 + 8 * r8Code .b + r8Code .a)
  | .ldCB => opOnly (0x40 + 8 * r8Code .c + r8Code .b)
  | .ldCC => opOnly (0x40 + 8 * r8Code .c + r8Code .c)
  | .ldCD => opOnly (0x40 + 8 * r8Code .c + r8Code .d)
  | .ldCE => opOnly (0x40 + 8 * r8Code .c + r8Code .e)
  | .ldCH => opOnly (0x40 + 8 * r8Code .c + r8Code .h)
  | .ldCL => opOnly (0x40 + 8 * r8Code .c + r8Code .l)
  | .ldCA => opOnly (0x40 + 8 * r8Code .c + r8Code .a)
  | .ldDB => opOnly (0x40 + 8 * r8Code .d + r8Code .b)
  | .ldDC => opOnly (0x40 + 8 * r8Code .d + r8Code .c)
  | .ldDD => opOnly (0x40 + 8 * r8Code .d + r8Code .d)
  | .ldDE => opOnly (0x40 + 8 * r8Code .d + r8Code .e)
  | .ldDH => opOnly (0x40 + 8 * r8Code .d + r8Code .h)
  | .ldDL => opOnly (0x40 + 8 * r8Code .d + r8Code .l)
  | .ldDA => opOnly (0x40 + 8 * r8Code .d + r8Code .a)
  | .ldEB => opOnly (0x40 + 8 * r8Code .e + r8Code .b)
  | .ldEC => opOnly (0x40 + 8 * r8Code .e + r8Code .c)
  | .ldED => opOnly (0x40 + 8 * r8Code .e + r8Code .d)
  | .ldEE => opOnly (0x40 + 8 * r8Code .e + r8Code .e)
  | .ldEH => opOnly (0x40 + 8 * r8Code .e + r8Code .h)
  | .ldEL => opOnly (0x40 + 8 * r8Code .e + r8Code .l)
  | .ldEA => opOnly (0x40 + 8 * r8Code .e + r8Code .a)
  | .ldHB => opOnly (0x40 + 8 * r8Code .h + r8Code .b)
  | .ldHC => opOnly (0x40 + 8 * r8Code .h + r8Code .c)
  | .ldHD => opOnly (0x40 + 8 * r8Code .h + r8Code .d)
  | .ldHE => opOnly (0x40 + 8 * r8Code .h + r8Code .e)
  | .ldHH => opOnly (0x40 + 8 * r8Code .h + r8Code .h)
  | .ldHL => opOnly (0x40 + 8 * r8Code .h + r8Code .l)
  | .ldHA => opOnly (0x40 + 8 * r8Code .h + r8Code .a)
  | .ldLB => opOnly (0x40 + 8 * r8Code .l + r8Code .b)
  | .ldLC => opOnly (0x40 + 8 * r8Code .l + r8Code .c)
  | .ldLD => opOnly (0x40 + 8 * r8Code .l + r8Code .d)
  | .ldLE => opOnly (0x40 + 8 * r8Code .l + r8Code .e)
  | .ldLH => opOnly (0x40 + 8 * r8Code .l + r8Code .h)
  | .ldLL => opOnly (0x40 + 8 * r8Code .l + r8Code .l)
  | .ldLA => opOnly (0x40 + 8 * r8Code .l + r8Code .a)
  | .ldAB => opOnly (0x40 + 8 * r8Code .a + r8Code .b)
  | .ldAC => opOnly (0x40 + 8 * r8Code .a + r8Code .c)
  | .ldAD => opOnly (0x40 + 8 * r8Code .a + r8Code .d)
  | .ldAE => opOnly (0x40 + 8 * r8Code .a + r8Code .e)
  | .ldAH => opOnly (0x40 + 8 * r8Code .a + r8Code .h)
  | .ldAL => opOnly (0x40 + 8 * r8Code .a + r8Code .l)
  | .ldAA => opOnly (0x40 + 8 * r8Code .a + r8Code .a)
  -- R142: LD r,n8
  | .ldBN8 n => opByte (0x06 + 8 * r8Code .b) n
  | .ldCN8 n => opByte (0x06 + 8 * r8Code .c) n
  | .ldDN8 n => opByte (0x06 + 8 * r8Code .d) n
  | .ldEN8 n => opByte (0x06 + 8 * r8Code .e) n
  | .ldHN8 n => opByte (0x06 + 8 * r8Code .h) n
  | .ldLN8 n => opByte (0x06 + 8 * r8Code .l) n
  | .ldAN8 n => opByte (0x06 + 8 * r8Code .a) n
  -- R143: LD r,(HL)
  | .ldBAtHl => opOnly (0x46 + 8 * r8Code .b)
  | .ldCAtHl => opOnly (0x46 + 8 * r8Code .c)
  | .ldDAtHl => opOnly (0x46 + 8 * r8Code .d)
  | .ldEAtHl => opOnly (0x46 + 8 * r8Code .e)
  | .ldHAtHl => opOnly (0x46 + 8 * r8Code .h)
  | .ldLAtHl => opOnly (0x46 + 8 * r8Code .l)
  | .ldAAtHl => opOnly (0x46 + 8 * r8Code .a)
  -- R144: LD (HL),r
  | .ldAtHlB => opOnly (0x70 + r8Code .b)
  | .ldAtHlC => opOnly (0x70 + r8Code .c)
  | .ldAtHlD => opOnly (0x70 + r8Code .d)
  | .ldAtHlE => opOnly (0x70 + r8Code .e)
  | .ldAtHlH => opOnly (0x70 + r8Code .h)
  | .ldAtHlL => opOnly (0x70 + r8Code .l)
  | .ldAtHlA => opOnly (0x70 + r8Code .a)
  -- R145: LD (HL),n8
  | .ldAtHlN8 n => opByte 0x36 n
  -- R146: LD A,(BC)
  | .ldAAtBc => opOnly 0x0A
  -- R147: LD A,(DE)
  | .ldAAtDe => opOnly 0x1A
  -- R148: LD (BC),A
  | .ldAtBcA => opOnly 0x02
  -- R149: LD (DE),A
  | .ldAtDeA => opOnly 0x12
  -- R150: LD A,(a16)
  | .ldAAtA16 a => opWord 0xFA a
  -- R151: LD (a16),A
  | .ldAtA16A a => opWord 0xEA a
  -- R152: LDH A,(C)
  | .ldhAAtC => opOnly 0xF2
  -- R153: LDH (C),A
  | .ldhAtCA => opOnly 0xE2
  -- R154: LDH A,(a8)
  | .ldhAAtA8 o => opByte 0xF0 o
  -- R155: LDH (a8),A
  | .ldhAtA8A o => opByte 0xE0 o
  -- R156: LD A,(HL-)
  | .ldAAtHld => opOnly 0x3A
  -- R157: LD (HL-),A
  | .ldAtHldA => opOnly 0x32
  -- R158: LD A,(HL+)
  | .ldAAtHli => opOnly 0x2A
  -- R159: LD (HL+),A
  | .ldAtHliA => opOnly 0x22
  -- R162: LD rr,n16
  | .ldBcN16 n => opWord (0x01 + 16 * pairCode .bc) n
  | .ldDeN16 n => opWord (0x01 + 16 * pairCode .de) n
  | .ldHlN16 n => opWord (0x01 + 16 * pairCode .hl) n
  | .ldSpN16 n => opWord (0x01 + 16 * pairCode .sp) n
  -- R163: LD (a16),SP
  | .ldAtA16Sp a => opWord 0x08 a
  -- R164: LD SP,HL
  | .ldSpHl => opOnly 0xF9
  -- R165: LD HL,SP+e8
  | .ldHlSpE8 e => opByte 0xF8 e
  -- R166: PUSH rr
  | .pushBc => opOnly (0xC5 + 16 * stackPairCode .bc)
  | .pushDe => opOnly (0xC5 + 16 * stackPairCode .de)
  | .pushHl => opOnly (0xC5 + 16 * stackPairCode .hl)
  | .pushAf => opOnly (0xC5 + 16 * stackPairCode .af)
  -- R167: POP rr
  | .popBc => opOnly (0xC1 + 16 * stackPairCode .bc)
  | .popDe => opOnly (0xC1 + 16 * stackPairCode .de)
  | .popHl => opOnly (0xC1 + 16 * stackPairCode .hl)
  | .popAf => opOnly (0xC1 + 16 * stackPairCode .af)
  -- R168: JP a16
  | .jpA16 a => opWord 0xC3 a
  -- R169: JP cc,a16
  | .jpNzA16 a => opWord (0xC2 + 8 * condCode .nz) a
  | .jpZA16 a => opWord (0xC2 + 8 * condCode .z) a
  | .jpNcA16 a => opWord (0xC2 + 8 * condCode .nc) a
  | .jpCA16 a => opWord (0xC2 + 8 * condCode .c) a
  -- R170: JP HL
  | .jpHl => opOnly 0xE9
  -- R171: JR e8
  | .jrE8 e => opByte 0x18 e
  -- R172: JR cc,e8
  | .jrNzE8 e => opByte (0x20 + 8 * condCode .nz) e
  | .jrZE8 e => opByte (0x20 + 8 * condCode .z) e
  | .jrNcE8 e => opByte (0x20 + 8 * condCode .nc) e
  | .jrCE8 e => opByte (0x20 + 8 * condCode .c) e
  -- R173: CALL a16
  | .callA16 a => opWord 0xCD a
  -- R174: CALL cc,a16
  | .callNzA16 a => opWord (0xC4 + 8 * condCode .nz) a
  | .callZA16 a => opWord (0xC4 + 8 * condCode .z) a
  | .callNcA16 a => opWord (0xC4 + 8 * condCode .nc) a
  | .callCA16 a => opWord (0xC4 + 8 * condCode .c) a
  -- R175: RET
  | .ret => opOnly 0xC9
  -- R176: RET cc
  | .retNz => opOnly (0xC0 + 8 * condCode .nz)
  | .retZ => opOnly (0xC0 + 8 * condCode .z)
  | .retNc => opOnly (0xC0 + 8 * condCode .nc)
  | .retC => opOnly (0xC0 + 8 * condCode .c)
  -- R177: RETI
  | .reti => opOnly 0xD9
  -- R178: RST n
  | .rst00 => opOnly (0xC7 + 8 * 0)
  | .rst08 => opOnly (0xC7 + 8 * 1)
  | .rst10 => opOnly (0xC7 + 8 * 2)
  | .rst18 => opOnly (0xC7 + 8 * 3)
  | .rst20 => opOnly (0xC7 + 8 * 4)
  | .rst28 => opOnly (0xC7 + 8 * 5)
  | .rst30 => opOnly (0xC7 + 8 * 6)
  | .rst38 => opOnly (0xC7 + 8 * 7)
  -- R180: NOP
  | .nop => opOnly 0x00
  -- R181: HALT
  | .halt => opOnly 0x76
  -- R182: STOP
  | .stop n => opByte 0x10 n
  -- R183: DI
  | .di => opOnly 0xF3
  -- R184: EI
  | .ei => opOnly 0xFB
  -- R185: PREFIX CB
  | .prefixCb k => cbPair k
  -- R186: ILLEGAL
  | .illegalD3 => opOnly 0xD3
  | .illegalDB => opOnly 0xDB
  | .illegalDD => opOnly 0xDD
  | .illegalE3 => opOnly 0xE3
  | .illegalE4 => opOnly 0xE4
  | .illegalEB => opOnly 0xEB
  | .illegalEC => opOnly 0xEC
  | .illegalED => opOnly 0xED
  | .illegalF4 => opOnly 0xF4
  | .illegalFC => opOnly 0xFC
  | .illegalFD => opOnly 0xFD

end Sys2Proof
end

