-- ==== Sys2Proof/Config.lean ====
section
/-! DEFINITION. The parameters the spec leaves OPEN (00_scope.md, section 4; 92_eei_decisions.md D7, D13, D14, D16, D18),
as plain data. Their default values stand in Sys2Proof/Machine/Parameters.lean. The type of `step` is fixed and takes no
argument but the state, so the parameters are carried in the state and no step writes them (log entry 3). -/

namespace Sys2Proof

/-- The two readings of the flags of a signed-immediate addition (R104, R109, D16). -/
inductive SignedAddFlags where
  /-- The carries out of bits 3 and 7 of the unsigned addition of the low bytes (R104). -/
  | hardware
  /-- The source's description by magnitude and direction (R109). -/
  | magnitude
  deriving DecidableEq, Repr

/-- One clause of the wake predicate of STOP: it holds of a pair of bytes (IF, IE) whose masked bits have the
given values. A list of clauses, read as an "or", expresses every predicate on the two bytes (R200, D14). -/
structure WakeClause where
  ifMask  : Byte
  ifValue : Byte
  ieMask  : Byte
  ieValue : Byte
  deriving DecidableEq, Repr

/-- A number of cycles that a parameter makes a step report: positive, since every step that goes on reports a positive
number (R7). -/
abbrev CycleCount := { n : Nat // 0 < n }

/-- The parameter CYCLES (R222, R223, D18): the SM83 table, or another one given as two lists indexed by the opcode
byte, the base costs and the costs of the secondary opcodes (an index past a list's end takes the SM83 entry). -/
inductive CycleTable where
  | sm83
  | other (base secondary : List CycleCount)
  deriving DecidableEq, Repr

/-- The open parameters of the model. -/
structure Config where
  /-- INT_DISPATCH_CYCLES: what an interrupt dispatch reports (R225, D7). -/
  intDispatchCycles : CycleCount
  /-- HALT_BUG: does HALT with IME=0 and an interrupt pending fail to halt (R181, R217, D13). -/
  haltBug : Bool
  /-- STOP_WAKE: what ends the state Stopped (R200, D14). -/
  stopWake : List WakeClause
  /-- SIGNED_ADD_FLAGS: the flags of `ADD SP,e8` and `LD HL,SP+e8` (R104, R109, D16). -/
  signedAddFlags : SignedAddFlags
  /-- CYCLES: the cycle table (R222, R223, D18). -/
  cycles : CycleTable
  deriving DecidableEq, Repr

end Sys2Proof
end

