-- ==== Sys2Proof/Machine/Parameters.lean ====
section
/-! DEFINITION. The fixed addresses of the core (R39, R191, R192, D3, D5), the interrupt sources (R191, D4), the defaults of
the open parameters (00_scope.md, section 4) and what an address that nothing has written reads as (log entry 2). -/

namespace Sys2Proof.Machine

/-- IF_ADDR, the interrupt request register (R192, D3). -/
def ifAddr : Word := 0xFF0F#16

/-- IE_ADDR, the interrupt enable register (R192, D3). -/
def ieAddr : Word := 0xFFFF#16

/-- The bits of IF and IE that the core looks at: `0x1F` (R193, D6). -/
def sourceMask : Byte := 0x1F#8

/-- The five interrupt sources, highest priority first (R191). -/
inductive Source where
  | vblank
  | lcdStatus
  | timer
  | serial
  | joypad
  deriving DecidableEq, Repr

/-- The bit of a source in IF and IE (R191, D4). -/
def sourceBit : Source → Nat
  | .vblank => 0
  | .lcdStatus => 1
  | .timer => 2
  | .serial => 3
  | .joypad => 4

/-- INT_VECTOR(i) = 0x0040 + 8*i, written out as the table of R191 has it (R191, R197, D5). -/
def serviceAddress : Source → Word
  | .vblank => 0x0040#16
  | .lcdStatus => 0x0048#16
  | .timer => 0x0050#16
  | .serial => 0x0058#16
  | .joypad => 0x0060#16

/-- `lowest(pending)` as a source: the one with the lowest bit number is taken first (R196). A caller gives it a
byte with one of the bits 4..0 set; of any other byte it says Joypad, which no step uses. -/
def lowestSource (pending : Byte) : Source :=
  if bitAt pending 0 then .vblank
  else if bitAt pending 1 then .lcdStatus
  else if bitAt pending 2 then .timer
  else if bitAt pending 3 then .serial
  else .joypad

/-- The defaults of the open parameters (00_scope.md, section 4; D7, D13, D14, D16, D18). -/
def defaultConfig : Config :=
  { intDispatchCycles := ⟨20, by decide⟩
    haltBug := true
    stopWake := [{ ifMask := 0x10#8, ifValue := 0x10#8, ieMask := 0x00#8, ieValue := 0x00#8 }]
    signedAddFlags := .hardware
    cycles := .sm83 }

/-- STOP_WAKE(IF, IE) (R200): some clause of the parameter holds of the two bytes. -/
def stopWakes (clauses : List WakeClause) (ifv iev : Byte) : Bool :=
  clauses.any fun k => (ifv &&& k.ifMask) == k.ifValue && (iev &&& k.ieMask) == k.ieValue

/-- What a bus read returns at an address that nothing has written. DESIGN CHOICE, unsafe: the spec leaves it to the
bus (R30, I5, I7); the convention of 95_test_vectors.md is taken (log entry 2). -/
def unlistedByte : Byte := 0x00#8

end Sys2Proof.Machine
end

