-- ==== Sys2Proof/Machine/Cycles.lean ====
section
/-! DEFINITION. The parameter CYCLES: the base costs of R222 and the CB costs of R223. A conditional instruction's cell `a/b` stands
here as `a`; its meaning adds the difference when the condition holds. -/

namespace Sys2Proof.Machine

/-- R222, rows 0x to 3x: the cost when a condition does not hold. -/
def baseCosts0 : List Nat :=
  [4, 12, 8, 8, 4, 4, 8, 4, 20, 8, 8, 8, 4, 4, 8, 4] ++
  [4, 12, 8, 8, 4, 4, 8, 4, 12, 8, 8, 8, 4, 4, 8, 4] ++
  [8, 12, 8, 8, 4, 4, 8, 4, 8, 8, 8, 8, 4, 4, 8, 4] ++
  [8, 12, 8, 8, 12, 12, 12, 4, 8, 8, 8, 8, 4, 4, 8, 4]

/-- R222, rows 4x to 7x. -/
def baseCosts4 : List Nat :=
  [4, 4, 4, 4, 4, 4, 8, 4, 4, 4, 4, 4, 4, 4, 8, 4] ++
  [4, 4, 4, 4, 4, 4, 8, 4, 4, 4, 4, 4, 4, 4, 8, 4] ++
  [4, 4, 4, 4, 4, 4, 8, 4, 4, 4, 4, 4, 4, 4, 8, 4] ++
  [8, 8, 8, 8, 8, 8, 4, 8, 4, 4, 4, 4, 4, 4, 8, 4]

/-- R222, rows 8x to Bx. -/
def baseCosts8 : List Nat :=
  [4, 4, 4, 4, 4, 4, 8, 4, 4, 4, 4, 4, 4, 4, 8, 4] ++
  [4, 4, 4, 4, 4, 4, 8, 4, 4, 4, 4, 4, 4, 4, 8, 4] ++
  [4, 4, 4, 4, 4, 4, 8, 4, 4, 4, 4, 4, 4, 4, 8, 4] ++
  [4, 4, 4, 4, 4, 4, 8, 4, 4, 4, 4, 4, 4, 4, 8, 4]

/-- R222, rows Cx to Fx. An illegal opcode has no cost; its 0 is never charged, since its step faults. The 4 at 0xCB
is the prefix's own. -/
def baseCostsC : List Nat :=
  [8, 12, 12, 16, 12, 16, 8, 16, 8, 16, 12, 4, 12, 24, 8, 16] ++
  [8, 12, 12, 0, 12, 16, 8, 16, 8, 16, 12, 0, 12, 0, 8, 16] ++
  [12, 12, 8, 0, 0, 16, 8, 16, 16, 4, 16, 0, 0, 0, 8, 16] ++
  [12, 12, 8, 4, 0, 16, 8, 16, 12, 8, 16, 4, 0, 0, 8, 16]

/-- The SM83's base cost of an opcode (R222). -/
def sm83Base (op : Byte) : Nat := (baseCosts0 ++ baseCosts4 ++ baseCosts8 ++ baseCostsC).getD op.toNat 0

/-- The SM83's cost of a secondary opcode, to be added to the prefix's: 4 for a register, 8 for BIT on the byte at HL,
12 for a read-modify-write of it (R223). -/
def sm83Secondary (cbop : Byte) : Nat :=
  if cbop &&& 0x07#8 = 0x06#8 then (if cbop &&& 0xC0#8 = 0x40#8 then 8 else 12) else 4

/-- The entry of a table given as a list, or the SM83's past the list's end (log entry 15). -/
def cycleEntry (entries : List CycleCount) (op : Byte) (past : Nat) : Nat :=
  match entries[op.toNat]? with
  | some n => n
  | none => past

/-- The base cost of an opcode under the parameter CYCLES (R222). -/
def tableBase (t : CycleTable) (op : Byte) : Nat :=
  match t with
  | .sm83 => sm83Base op
  | .other base _ => cycleEntry base op (sm83Base op)

/-- The cost of a secondary opcode under the parameter CYCLES (R223). -/
def tableSecondary (t : CycleTable) (cbop : Byte) : Nat :=
  match t with
  | .sm83 => sm83Secondary cbop
  | .other _ secondary => cycleEntry secondary cbop (sm83Secondary cbop)

/-- `base_cycles` of an instruction by its opcode and the byte after it, which counts only behind the prefix
(R60, R185, R222, R223). -/
def baseCycles (t : CycleTable) (op next : Byte) : Nat :=
  if op = 0xCB#8 then tableBase t op + tableSecondary t next else tableBase t op

/-- What an idle step in Halted or Stopped reports (R198, R225). -/
def idleCycles : Nat := 4

/-- What the step that wakes the core adds (R199, R200, R225). -/
def wakeCycles : Nat := 4

end Sys2Proof.Machine
end

