-- ==== Sys2Proof/Machine/Flags.lean ====
section
/-! DEFINITION. Every result and flag computation of the spec (40_alu8.md section 1, R98, R104, R105, R109, R114), on
plain values: sums are taken on unbounded integers and narrowed at the end, as the rules write them. -/

namespace Sys2Proof.Machine

/-- A result with the four flags of its rule. -/
structure AluOut where
  res : Byte
  z   : Bool
  n   : Bool
  h   : Bool
  c   : Bool
  deriving DecidableEq, Repr

/-- `Add8(a, v, cin)` (R65). -/
def add8 (a v : Byte) (cin : Bool) : AluOut :=
  { res := a + v + bit8 cin
    z := a + v + bit8 cin == 0#8
    n := false
    h := decide (a.toNat % 16 + v.toNat % 16 + cin.toNat > 0x0F)
    c := decide (a.toNat + v.toNat + cin.toNat > 0xFF) }

/-- `Sub8(a, v, cin)` (R66). -/
def sub8 (a v : Byte) (cin : Bool) : AluOut :=
  { res := a - v - bit8 cin
    z := a - v - bit8 cin == 0#8
    n := true
    h := decide (a.toNat % 16 < v.toNat % 16 + cin.toNat)
    c := decide (a.toNat < v.toNat + cin.toNat) }

/-- `And8(a, v)` (R67). -/
def and8 (a v : Byte) : AluOut := { res := a &&& v, z := a &&& v == 0#8, n := false, h := true, c := false }

/-- `Xor8(a, v)` (R67). -/
def xor8 (a v : Byte) : AluOut := { res := a ^^^ v, z := a ^^^ v == 0#8, n := false, h := false, c := false }

/-- `Or8(a, v)` (R67). -/
def or8 (a v : Byte) : AluOut := { res := a ||| v, z := a ||| v == 0#8, n := false, h := false, c := false }

/-- The eight accumulator operations, with the carry flag given to the two that read it (R53, R70 to R93). -/
def aluOut (op : AluOp) (a v : Byte) (carry : Bool) : AluOut :=
  match op with
  | .add => add8 a v false
  | .adc => add8 a v carry
  | .sub => sub8 a v false
  | .sbc => sub8 a v carry
  | .and => and8 a v
  | .xor => xor8 a v
  | .or => or8 a v
  | .cp => sub8 a v false

/-- `Inc8(v)`: the result; its flags are Z, N=0 and H, and C is not one of them (R68). -/
def inc8 (v : Byte) : Byte := v + 1#8

/-- H of `Inc8(v)` (R68). -/
def inc8H (v : Byte) : Bool := v &&& 0x0F#8 == 0x0F#8

/-- `Dec8(v)`: the result; its flags are Z, N=1 and H, and C is not one of them (R69). -/
def dec8 (v : Byte) : Byte := v - 1#8

/-- H of `Dec8(v)` (R69). -/
def dec8H (v : Byte) : Bool := v &&& 0x0F#8 == 0x00#8

/-- DAA's correction of the high digit: the byte and the new carry (R98). -/
def daaHigh (a : Byte) (n c : Bool) : Byte × Bool :=
  if n then (if c then a - 0x60#8 else a, c)
  else if c || decide (a.toNat > 0x99) then (a + 0x60#8, true) else (a, c)

/-- DAA's correction of the low digit; the digit is that of the byte already corrected by 0x60, which is the
same one (R98). -/
def daaLow (a : Byte) (n h : Bool) : Byte :=
  if n then (if h then a - 0x06#8 else a)
  else if h || decide ((a &&& 0x0F#8).toNat > 0x09) then a + 0x06#8 else a

/-- The result of DAA (R98). -/
def daaResult (a : Byte) (n h c : Bool) : Byte := daaLow (daaHigh a n c).1 n h

/-- C after DAA (R98). -/
def daaCarry (a : Byte) (n c : Bool) : Bool := (daaHigh a n c).2

/-- H of `ADD HL,rr`: the carry out of bit 11 (R105). -/
def add16H (x y : Word) : Bool := decide (x.toNat % 4096 + y.toNat % 4096 > 0x0FFF)

/-- C of `ADD HL,rr`: the carry out of bit 15 (R105). -/
def add16C (x y : Word) : Bool := decide (x.toNat + y.toNat > 0xFFFF)

/-- The result of `SignedAdd16(base, b)` (R104). -/
def signedAdd16 (base : Word) (b : Byte) : Word := base + sext16 b

/-- H of `SignedAdd16(base, b)` under the parameter SIGNED_ADD_FLAGS (R104, R109). -/
def signedAddH (flags : SignedAddFlags) (base : Word) (b : Byte) : Bool :=
  match flags with
  | .hardware => decide (base.toNat % 16 + b.toNat % 16 > 0x0F)
  | .magnitude =>
    if b.toInt ≥ 0 then decide (base.toNat % 16 + b.toNat % 16 > 0x0F)
    else decide (base.toNat % 16 < b.toInt.natAbs % 16)

/-- C of `SignedAdd16(base, b)` under the parameter SIGNED_ADD_FLAGS (R104, R109). -/
def signedAddC (flags : SignedAddFlags) (base : Word) (b : Byte) : Bool :=
  match flags with
  | .hardware => decide (base.toNat % 256 + b.toNat > 0xFF)
  | .magnitude =>
    if b.toInt ≥ 0 then decide (base.toNat % 256 + b.toNat > 0xFF)
    else decide (base.toNat % 256 < b.toInt.natAbs)

/-- The result of `Shift(op, v, cin)` (R114). -/
def shiftResult (op : ShiftOp) (v : Byte) (cin : Bool) : Byte :=
  match op with
  | .rlc => (v <<< 1) ||| bit8 (bitAt v 7)
  | .rrc => (v >>> 1) ||| (bit8 (bitAt v 0) <<< 7)
  | .rl => (v <<< 1) ||| bit8 cin
  | .rr => (v >>> 1) ||| (bit8 cin <<< 7)
  | .sla => v <<< 1
  | .sra => (v >>> 1) ||| (v &&& 0x80#8)
  | .swap => (v <<< 4) ||| (v >>> 4)
  | .srl => v >>> 1

/-- The carry out of `Shift(op, v, cin)` (R114). -/
def shiftCarry (op : ShiftOp) (v : Byte) : Bool :=
  match op with
  | .rlc | .rl | .sla => bitAt v 7
  | .rrc | .rr | .sra | .srl => bitAt v 0
  | .swap => false

end Sys2Proof.Machine
end

