-- ==== Sys2Proof/Machine/Memory.lean ====
section
/-! DEFINITION. The bytes behind the bus: one space of 65536 bytes (R31), as a list of (address, byte) pairs in one
canonical form. Every address reads (R30: the interface is total). Plain RAM behind every address is a DESIGN CHOICE,
unsafe (log entry 1). -/

namespace Sys2Proof.Machine

/-- The written bytes, at strictly rising addresses, none equal to `unlistedByte`. -/
abbrev Memory := List Host.Cell

/-- The byte at an address: the listed one, or `unlistedByte`. -/
def Memory.read : Memory → Nat → Byte
  | [], _ => unlistedByte
  | (k, w) :: rest, a => if k = a then w else Memory.read rest a

/-- The memory without an address. -/
def Memory.erase : Memory → Nat → Memory
  | [], _ => []
  | (k, w) :: rest, a => if k = a then Memory.erase rest a else (k, w) :: Memory.erase rest a

/-- The memory with a cell put in front of the first higher address. -/
def Memory.insert : Memory → Nat → Byte → Memory
  | [], a, v => [(a, v)]
  | (k, w) :: rest, a, v => if a < k then (a, v) :: (k, w) :: rest else (k, w) :: Memory.insert rest a v

/-- The memory with one byte written: the old cell goes, and a new one comes unless its byte is what an unlisted address
reads as. From a memory in canonical form it gives one in canonical form; of any list the next read of the address
gives the byte. -/
def Memory.write (m : Memory) (a : Nat) (v : Byte) : Memory :=
  if v = unlistedByte then m.erase a else (m.erase a).insert a v

/-- The canonical form from an address up: addresses rise strictly, stay below 65536, and no byte is `unlistedByte`. -/
def Memory.wfFrom : Nat → Memory → Bool
  | _, [] => true
  | lo, (k, w) :: rest => decide (lo ≤ k) && decide (k < 65536) && !(w == unlistedByte) && Memory.wfFrom (k + 1) rest

/-- The canonical form of the memory. -/
def Memory.wf (m : Memory) : Bool := Memory.wfFrom 0 m

end Sys2Proof.Machine
end

