-- ==== Sys2Proof/Machine/State.lean ====
section
/-! DEFINITION. The state of the machine (10_state.md), the one fault (R188) and the refusals, as plain data. -/

namespace Sys2Proof.Machine

/-- `mode` (R20). -/
inductive Mode where
  | running
  | halted
  | stopped
  deriving DecidableEq, Repr

/-- One call of the bus interface (R30): the address, and the byte read or written. -/
inductive BusCall where
  | read (addr : Word) (value : Byte)
  | write (addr : Word) (value : Byte)
  deriving DecidableEq, Repr

/-- The record `InvalidOpcode{opcode, pc}` of the fault (R23, R188). -/
structure InvalidOpcode where
  opcode : Byte
  pc     : Word
  deriving DecidableEq, Repr

/-- The state of the core (10_state.md), the bytes behind the bus (R30, R31), and three fields that are not the
spec's state: what the last step gave back (`cycles`, log entry 4; `bus`, log entry 5) and the model's
parameters (`config`, log entry 3). -/
@[ext]
structure State where
  /-- The accumulator (R13). -/
  a : Byte
  /-- The flags Z N H C in bits 7..4; bits 3..0 are always 0 (R16, R17). -/
  f : Byte
  b : Byte
  c : Byte
  d : Byte
  e : Byte
  h : Byte
  l : Byte
  /-- The stack pointer (R15). -/
  sp : Word
  /-- The program counter (R15, R24). -/
  pc : Word
  /-- The interrupt master enable (R18). -/
  ime : Bool
  /-- Running, Halted or Stopped (R20). -/
  mode : Mode
  /-- EI's delayed effect is due (R21). -/
  eiPending : Bool
  /-- The next fetch does not step over its opcode byte (R22). -/
  haltBug : Bool
  /-- The fatal fault, once raised (R23, R190). -/
  fault : Option InvalidOpcode
  /-- The bytes behind the bus, IF and IE among them (R28, R31, R192). -/
  mem : Memory
  /-- The cycle count the last step returned (R7, R221). -/
  cycles : Nat
  /-- The bus calls of the last step, in the order they were made (R37, R38). -/
  bus : List BusCall
  /-- The open parameters of the model (00_scope.md, section 4). -/
  config : Config
  deriving DecidableEq, Repr

/-- The reasons a step ends in a fault. -/
inductive Fault where
  /-- R188: one of the eleven illegal base opcodes was fetched, now (raised by the eleven `execIllegal…` meanings) or in an
  earlier step of the same run (raised again by `step`, R190). It carries the record of R188 and the faulted
  state, which is the state before the step with `fault` set (log entry 6). Safe: the spec says that the step ends in
  this fault. -/
  | invalidOpcode (opcode : Byte) (pc : Word) (after : State)
  deriving DecidableEq, Repr

/-- The reasons the model gives an instruction no meaning. -/
inductive Refusal where
  /-- An instruction of the opcode table that has no meaning yet, by its mnemonic: raised by an arm of `exec`, and by none
  in this model. Safe: the machine stops where the hardware goes on. -/
  | notModelled (mnemonic : String)
  deriving DecidableEq, Repr

/-- The outcome of a step or of an instruction. -/
abbrev Result := Host.Outcome State Fault Refusal

/-- The state after `reset()` on a bus that nothing has written (R26, R27, R211, R214). -/
def State.reset : State :=
  { a := 0x01#8
    f := 0xB0#8
    b := 0x00#8
    c := 0x13#8
    d := 0x00#8
    e := 0xD8#8
    h := 0x01#8
    l := 0x4D#8
    sp := 0xFFFE#16
    pc := 0x0100#16
    ime := false
    mode := .running
    eiPending := false
    haltBug := false
    fault := none
    mem := []
    cycles := 0
    bus := []
    config := defaultConfig }

end Sys2Proof.Machine
end

