-- ==== Sys2Proof/Machine/Ops.lean ====
section
/-! DEFINITION. The named operations over registers, memory and the stack (10_state.md, 20_memory.md,
44_load16_stack.md), the taking of an interrupt and the return from one (60_exceptions.md), the raising of the one fault (R188),
and what the outside world can do to the machine between two steps (R5, R11, R45). -/

namespace Sys2Proof.Machine

/-! ### Register pairs -/

/-- BC (R14). -/
def State.bc (s : State) : Word := joinBytes s.b s.c

/-- DE (R14). -/
def State.de (s : State) : Word := joinBytes s.d s.e

/-- HL (R14). -/
def State.hl (s : State) : Word := joinBytes s.h s.l

/-- AF as it is read whole: the low nibble of F reads as 0 (R14, R17, R166). -/
def State.af (s : State) : Word := joinBytes s.a (s.f &&& 0xF0#8)

/-- BC <- v (R14). -/
def State.setBc (s : State) (v : Word) : State := { s with b := highByte v, c := lowByte v }

/-- DE <- v (R14). -/
def State.setDe (s : State) (v : Word) : State := { s with d := highByte v, e := lowByte v }

/-- HL <- v (R14). -/
def State.setHl (s : State) (v : Word) : State := { s with h := highByte v, l := lowByte v }

/-- AF <- v: the low nibble of F is forced to 0 (R17, R167). -/
def State.setAf (s : State) (v : Word) : State := { s with a := highByte v, f := lowByte v &&& 0xF0#8 }

/-! ### The flags -/

/-- One flag (R16). -/
def State.flag (s : State) (k : Flag) : Bool := bitAt s.f k.bit

/-- `F.k <- b`: the other bits of F stay (R16). -/
def State.setFlag (s : State) (k : Flag) (b : Bool) : State := { s with f := putBit s.f k.bit b }

/-- Writes N and H. -/
def State.setNH (s : State) (n h : Bool) : State := (s.setFlag .n n).setFlag .h h

/-- Writes Z, N and H; C stays. -/
def State.setZNH (s : State) (z n h : Bool) : State := (s.setFlag .z z).setNH n h

/-- Writes N, H and C; Z stays. -/
def State.setNHC (s : State) (n h c : Bool) : State := (s.setNH n h).setFlag .c c

/-- Writes all four flags. -/
def State.setFlags (s : State) (z n h c : Bool) : State := (s.setZNH z n h).setFlag .c c

/-! ### The bus -/

/-- The byte a read of an address returns (R30, R31). -/
def State.busRead (s : State) (addr : Word) : Byte := s.mem.read addr.toNat

/-- The state after a read: memory stays, the call is noted (R37, log entry 5). -/
def State.logRead (s : State) (addr : Word) : State := { s with bus := s.bus ++ [.read addr (s.busRead addr)] }

/-- `MemRead(addr, 1)`: the byte and the state after it (R30). -/
def State.memRead (s : State) (addr : Word) : Byte × State := (s.busRead addr, s.logRead addr)

/-- `MemWrite(addr, 1, v)` (R30). -/
def State.memWrite (s : State) (addr : Word) (v : Byte) : State :=
  { s with mem := s.mem.write addr.toNat v, bus := s.bus ++ [.write addr v] }

/-- `Read16(addr)`: the low byte, then the high byte at the next address, modulo 0x10000 (R33, R34). -/
def State.read16 (s : State) (addr : Word) : Word × State :=
  (joinBytes ((s.logRead addr).busRead (addr + 1)) (s.busRead addr), (s.logRead addr).logRead (addr + 1))

/-- `Write16(addr, v)`: the low byte, then the high byte at the next address, modulo 0x10000 (R33, R34). -/
def State.write16 (s : State) (addr : Word) (v : Word) : State :=
  (s.memWrite addr (lowByte v)).memWrite (addr + 1) (highByte v)

/-! ### The stack -/

/-- SP <- v: any value is accepted (R15). -/
def State.setSp (s : State) (v : Word) : State := { s with sp := v }

/-- `Push16(v)`: SP down by 2, then the low byte at SP and the high byte at SP + 1 (R160). -/
def State.push16 (s : State) (v : Word) : State := (s.setSp (s.sp - 2)).write16 (s.sp - 2) v

/-- `Pop16()`: the low byte at SP, the high byte at SP + 1, then SP up by 2 (R161). -/
def State.pop16 (s : State) : Word × State := ((s.read16 s.sp).1, (s.read16 s.sp).2.setSp (s.sp + 2))

/-! ### Control -/

/-- PC <- target (R24). -/
def State.setPc (s : State) (target : Word) : State := { s with pc := target }

/-- IME <- v, and a delayed EI is dropped (R177, R183, R195). -/
def State.setIme (s : State) (v : Bool) : State := { s with ime := v, eiPending := false }

/-- mode <- m (R20). -/
def State.setMode (s : State) (m : Mode) : State := { s with mode := m }

/-- Adds to the cycle count the step returns (R60, R221). -/
def State.charge (s : State) (n : Nat) : State := { s with cycles := s.cycles + n }

/-- The start of a step: nothing returned and no bus call made yet (log entries 4 and 5). -/
def State.beginStep (s : State) : State := { s with cycles := 0, bus := [] }

/-! ### Interrupts and the fault -/

/-- The taking of an interrupt, `Dispatch(ifv, pending)` (R195): one request bit is cleared in the byte read from IF, IME
and a delayed EI are cleared, PC is pushed, and PC becomes the service address of the source with the lowest bit
(R196, R197). -/
def State.takeInterrupt (s : State) (ifv pending : Byte) : State :=
  let cleared := (s.memWrite ifAddr (clearBit ifv (sourceBit (lowestSource pending)))).setIme false
  ((cleared.push16 s.pc).setPc (serviceAddress (lowestSource pending))).charge s.config.intDispatchCycles

/-- The return from an interrupt, RETI: PC is popped and IME is set at once (R177). -/
def State.returnFromInterrupt (s : State) : State := (s.pop16.2.setPc s.pop16.1).setIme true

/-- The raising of InvalidOpcode at an opcode that PC still points at: the record of R188, and the state with
nothing changed but `fault` (R61, R188, C1). -/
def State.raiseInvalidOpcode (s : State) (opcode : Byte) : Result :=
  .fault (.invalidOpcode opcode s.pc { s with fault := some { opcode := opcode, pc := s.pc } })

/-- `pending`: requested and enabled, of the two bytes read (R193). -/
def pendingBits (ifv iev : Byte) : Byte := ifv &&& iev &&& sourceMask

/-! ### What the outside world does between two steps -/

/-- A device behind the bus changes one byte between two steps (R11, R41): no bus call of the core. -/
def State.deviceWrite (s : State) (addr : Word) (v : Byte) : State := { s with mem := s.mem.write addr.toNat v }

/-- `request_interrupt(source)`: a device sets a source's bit in IF between two steps (R45, R204). -/
def State.requestInterrupt (s : State) (k : Source) : State :=
  s.deviceWrite ifAddr (setBit (s.busRead ifAddr) (sourceBit k))

/-- `reset()` of a machine in any state (R211): every piece of core state takes its reset value, memory and the
parameters stay, and no bus access is made (R214). -/
def State.resetCore (s : State) : State := { State.reset with mem := s.mem, config := s.config }

end Sys2Proof.Machine
end

