-- ==== Sys2Proof/Machine/Operands.lean ====
section
/-! DEFINITION. The operand forms: registers, pairs, the byte at HL, conditions and immediates (30_encoding.md, R48 to R54). -/

namespace Sys2Proof.Machine

/-- `reg8[r]` for a register (R13, R50). -/
def State.r8 (s : State) : R8 → Byte
  | .b => s.b
  | .c => s.c
  | .d => s.d
  | .e => s.e
  | .h => s.h
  | .l => s.l
  | .a => s.a

/-- `reg8[r] <- v` for a register (R13, R50). -/
def State.setR8 (s : State) (r : R8) (v : Byte) : State :=
  match r with
  | .b => { s with b := v }
  | .c => { s with c := v }
  | .d => { s with d := v }
  | .e => { s with e := v }
  | .h => { s with h := v }
  | .l => { s with l := v }
  | .a => { s with a := v }

/-- `reg16sp[p]` (R51). -/
def State.pair (s : State) : Pair → Word
  | .bc => s.bc
  | .de => s.de
  | .hl => s.hl
  | .sp => s.sp

/-- `reg16sp[p] <- v` (R51). -/
def State.setPair (s : State) (p : Pair) (v : Word) : State :=
  match p with
  | .bc => s.setBc v
  | .de => s.setDe v
  | .hl => s.setHl v
  | .sp => s.setSp v

/-- `reg16af[p]` (R51). -/
def State.stackPair (s : State) : StackPair → Word
  | .bc => s.bc
  | .de => s.de
  | .hl => s.hl
  | .af => s.af

/-- `reg16af[p] <- v`; into AF the low nibble of F is forced to 0 (R51, R167). -/
def State.setStackPair (s : State) (p : StackPair) (v : Word) : State :=
  match p with
  | .bc => s.setBc v
  | .de => s.setDe v
  | .hl => s.setHl v
  | .af => s.setAf v

/-- What an `r` code names: a register, or the byte at address HL (R50). -/
inductive Operand8 where
  | reg (r : R8)
  | atHl
  deriving DecidableEq, Repr

/-- The operand of a 3-bit `r` code (R50). -/
def operand8 (code : BitVec 3) : Operand8 :=
  match code.toNat with
  | 0 => .reg .b
  | 1 => .reg .c
  | 2 => .reg .d
  | 3 => .reg .e
  | 4 => .reg .h
  | 5 => .reg .l
  | 6 => .atHl
  | _ => .reg .a

/-- Reads an 8-bit operand; the byte at HL by one bus read (R50). -/
def State.readOperand (s : State) : Operand8 → Byte × State
  | .reg r => (s.r8 r, s)
  | .atHl => s.memRead s.hl

/-- Writes an 8-bit operand; the byte at HL by one bus write (R50). -/
def State.writeOperand (s : State) (o : Operand8) (v : Byte) : State :=
  match o with
  | .reg r => s.setR8 r v
  | .atHl => s.memWrite s.hl v

/-- `cc_true(cc)` (R52). -/
def State.condition (s : State) : Cond → Bool
  | .nz => !s.flag .z
  | .z => s.flag .z
  | .nc => !s.flag .c
  | .c => s.flag .c

/-- The high-page address of an 8-bit offset: `0xFF00 + zext_16(offset)` (R54). -/
def highPage (offset : Byte) : Word := 0xFF00#16 + zext16 offset

/-- The target of a relative jump: PC, already past the instruction, plus the signed byte (R54, R171). -/
def State.relativeTarget (s : State) (e : Byte) : Word := s.pc + sext16 e

/-- The number of a bit of a byte (R131). -/
def bitIndex : BitNumber → Nat
  | .b0 => 0
  | .b1 => 1
  | .b2 => 2
  | .b3 => 3
  | .b4 => 4
  | .b5 => 5
  | .b6 => 6
  | .b7 => 7

/-- The address an RST goes to: `zext_16(8*y)` (R178). -/
def rstAddress : RstTarget → Word
  | .t00 => 0x0000#16
  | .t08 => 0x0008#16
  | .t10 => 0x0010#16
  | .t18 => 0x0018#16
  | .t20 => 0x0020#16
  | .t28 => 0x0028#16
  | .t30 => 0x0030#16
  | .t38 => 0x0038#16

end Sys2Proof.Machine
end

