-- ==== Sys2Proof/Machine/Alu8.lean ====
section
/-! DEFINITION. 8-bit arithmetic and logic (40_alu8.md, R70 to R101): shared operations, then one meaning per instruction. -/

namespace Sys2Proof.Machine

/-- Does an accumulator operation write A? CP discards its result (R91). -/
def aluWritesA : AluOp → Bool
  | .add | .adc | .sub | .sbc | .and | .xor | .or => true
  | .cp => false

/-- The state after an accumulator operation on a value (R70 to R93): the four flags, and A unless it is CP. -/
def State.alu (s : State) (op : AluOp) (v : Byte) : State :=
  let r := aluOut op s.a v (s.flag .c)
  let flagged := s.setFlags r.z r.n r.h r.c
  if aluWritesA op then flagged.setR8 .a r.res else flagged

/-- An accumulator operation on a register or the byte at HL. -/
def aluOperand (op : AluOp) (o : Operand8) (s : State) : Result :=
  .next ((s.readOperand o).2.alu op (s.readOperand o).1)

/-- An accumulator operation on an immediate. -/
def aluImmediate (op : AluOp) (n : Byte) (s : State) : Result := .next (s.alu op n)

/-- INC of an 8-bit operand: one read, then one write; Z, N and H are written, C is not (R68, R94, R95). -/
def incOperand (o : Operand8) (s : State) : Result :=
  let v := (s.readOperand o).1
  .next (((s.readOperand o).2.writeOperand o (inc8 v)).setZNH (inc8 v == 0#8) false (inc8H v))

/-- DEC of an 8-bit operand: one read, then one write; Z, N and H are written, C is not (R69, R96, R97). -/
def decOperand (o : Operand8) (s : State) : Result :=
  let v := (s.readOperand o).1
  .next (((s.readOperand o).2.writeOperand o (dec8 v)).setZNH (dec8 v == 0#8) true (dec8H v))

/-! ### R70: ADD A,r -/

/-- `ADD A,B` (R70). -/
def execAddAB (s : State) : Result := aluOperand .add (.reg .b) s

/-- `ADD A,C` (R70). -/
def execAddAC (s : State) : Result := aluOperand .add (.reg .c) s

/-- `ADD A,D` (R70). -/
def execAddAD (s : State) : Result := aluOperand .add (.reg .d) s

/-- `ADD A,E` (R70). -/
def execAddAE (s : State) : Result := aluOperand .add (.reg .e) s

/-- `ADD A,H` (R70). -/
def execAddAH (s : State) : Result := aluOperand .add (.reg .h) s

/-- `ADD A,L` (R70). -/
def execAddAL (s : State) : Result := aluOperand .add (.reg .l) s

/-- `ADD A,A` (R70). -/
def execAddAA (s : State) : Result := aluOperand .add (.reg .a) s

/-! ### R71: ADD A,(HL) -/

/-- `ADD A,(HL)` (R71). -/
def execAddAAtHl (s : State) : Result := aluOperand .add .atHl s

/-! ### R72: ADD A,n8 -/

/-- `ADD A,n8` (R72). -/
def execAddAN8 (n : Byte) (s : State) : Result := aluImmediate .add n s

/-! ### R73: ADC A,r -/

/-- `ADC A,B` (R73). -/
def execAdcAB (s : State) : Result := aluOperand .adc (.reg .b) s

/-- `ADC A,C` (R73). -/
def execAdcAC (s : State) : Result := aluOperand .adc (.reg .c) s

/-- `ADC A,D` (R73). -/
def execAdcAD (s : State) : Result := aluOperand .adc (.reg .d) s

/-- `ADC A,E` (R73). -/
def execAdcAE (s : State) : Result := aluOperand .adc (.reg .e) s

/-- `ADC A,H` (R73). -/
def execAdcAH (s : State) : Result := aluOperand .adc (.reg .h) s

/-- `ADC A,L` (R73). -/
def execAdcAL (s : State) : Result := aluOperand .adc (.reg .l) s

/-- `ADC A,A` (R73). -/
def execAdcAA (s : State) : Result := aluOperand .adc (.reg .a) s

/-! ### R74: ADC A,(HL) -/

/-- `ADC A,(HL)` (R74). -/
def execAdcAAtHl (s : State) : Result := aluOperand .adc .atHl s

/-! ### R75: ADC A,n8 -/

/-- `ADC A,n8` (R75). -/
def execAdcAN8 (n : Byte) (s : State) : Result := aluImmediate .adc n s

/-! ### R76: SUB r -/

/-- `SUB B` (R76). -/
def execSubB (s : State) : Result := aluOperand .sub (.reg .b) s

/-- `SUB C` (R76). -/
def execSubC (s : State) : Result := aluOperand .sub (.reg .c) s

/-- `SUB D` (R76). -/
def execSubD (s : State) : Result := aluOperand .sub (.reg .d) s

/-- `SUB E` (R76). -/
def execSubE (s : State) : Result := aluOperand .sub (.reg .e) s

/-- `SUB H` (R76). -/
def execSubH (s : State) : Result := aluOperand .sub (.reg .h) s

/-- `SUB L` (R76). -/
def execSubL (s : State) : Result := aluOperand .sub (.reg .l) s

/-- `SUB A` (R76). -/
def execSubA (s : State) : Result := aluOperand .sub (.reg .a) s

/-! ### R77: SUB (HL) -/

/-- `SUB (HL)` (R77). -/
def execSubAtHl (s : State) : Result := aluOperand .sub .atHl s

/-! ### R78: SUB n8 -/

/-- `SUB n8` (R78). -/
def execSubN8 (n : Byte) (s : State) : Result := aluImmediate .sub n s

/-! ### R79: SBC A,r -/

/-- `SBC A,B` (R79). -/
def execSbcAB (s : State) : Result := aluOperand .sbc (.reg .b) s

/-- `SBC A,C` (R79). -/
def execSbcAC (s : State) : Result := aluOperand .sbc (.reg .c) s

/-- `SBC A,D` (R79). -/
def execSbcAD (s : State) : Result := aluOperand .sbc (.reg .d) s

/-- `SBC A,E` (R79). -/
def execSbcAE (s : State) : Result := aluOperand .sbc (.reg .e) s

/-- `SBC A,H` (R79). -/
def execSbcAH (s : State) : Result := aluOperand .sbc (.reg .h) s

/-- `SBC A,L` (R79). -/
def execSbcAL (s : State) : Result := aluOperand .sbc (.reg .l) s

/-- `SBC A,A` (R79). -/
def execSbcAA (s : State) : Result := aluOperand .sbc (.reg .a) s

/-! ### R80: SBC A,(HL) -/

/-- `SBC A,(HL)` (R80). -/
def execSbcAAtHl (s : State) : Result := aluOperand .sbc .atHl s

/-! ### R81: SBC A,n8 -/

/-- `SBC A,n8` (R81). -/
def execSbcAN8 (n : Byte) (s : State) : Result := aluImmediate .sbc n s

/-! ### R82: AND r -/

/-- `AND B` (R82). -/
def execAndB (s : State) : Result := aluOperand .and (.reg .b) s

/-- `AND C` (R82). -/
def execAndC (s : State) : Result := aluOperand .and (.reg .c) s

/-- `AND D` (R82). -/
def execAndD (s : State) : Result := aluOperand .and (.reg .d) s

/-- `AND E` (R82). -/
def execAndE (s : State) : Result := aluOperand .and (.reg .e) s

/-- `AND H` (R82). -/
def execAndH (s : State) : Result := aluOperand .and (.reg .h) s

/-- `AND L` (R82). -/
def execAndL (s : State) : Result := aluOperand .and (.reg .l) s

/-- `AND A` (R82). -/
def execAndA (s : State) : Result := aluOperand .and (.reg .a) s

/-! ### R83: AND (HL) -/

/-- `AND (HL)` (R83). -/
def execAndAtHl (s : State) : Result := aluOperand .and .atHl s

/-! ### R84: AND n8 -/

/-- `AND n8` (R84). -/
def execAndN8 (n : Byte) (s : State) : Result := aluImmediate .and n s

/-! ### R85: XOR r -/

/-- `XOR B` (R85). -/
def execXorB (s : State) : Result := aluOperand .xor (.reg .b) s

/-- `XOR C` (R85). -/
def execXorC (s : State) : Result := aluOperand .xor (.reg .c) s

/-- `XOR D` (R85). -/
def execXorD (s : State) : Result := aluOperand .xor (.reg .d) s

/-- `XOR E` (R85). -/
def execXorE (s : State) : Result := aluOperand .xor (.reg .e) s

/-- `XOR H` (R85). -/
def execXorH (s : State) : Result := aluOperand .xor (.reg .h) s

/-- `XOR L` (R85). -/
def execXorL (s : State) : Result := aluOperand .xor (.reg .l) s

/-- `XOR A` (R85). -/
def execXorA (s : State) : Result := aluOperand .xor (.reg .a) s

/-! ### R86: XOR (HL) -/

/-- `XOR (HL)` (R86). -/
def execXorAtHl (s : State) : Result := aluOperand .xor .atHl s

/-! ### R87: XOR n8 -/

/-- `XOR n8` (R87). -/
def execXorN8 (n : Byte) (s : State) : Result := aluImmediate .xor n s

/-! ### R88: OR r -/

/-- `OR B` (R88). -/
def execOrB (s : State) : Result := aluOperand .or (.reg .b) s

/-- `OR C` (R88). -/
def execOrC (s : State) : Result := aluOperand .or (.reg .c) s

/-- `OR D` (R88). -/
def execOrD (s : State) : Result := aluOperand .or (.reg .d) s

/-- `OR E` (R88). -/
def execOrE (s : State) : Result := aluOperand .or (.reg .e) s

/-- `OR H` (R88). -/
def execOrH (s : State) : Result := aluOperand .or (.reg .h) s

/-- `OR L` (R88). -/
def execOrL (s : State) : Result := aluOperand .or (.reg .l) s

/-- `OR A` (R88). -/
def execOrA (s : State) : Result := aluOperand .or (.reg .a) s

/-! ### R89: OR (HL) -/

/-- `OR (HL)` (R89). -/
def execOrAtHl (s : State) : Result := aluOperand .or .atHl s

/-! ### R90: OR n8 -/

/-- `OR n8` (R90). -/
def execOrN8 (n : Byte) (s : State) : Result := aluImmediate .or n s

/-! ### R91: CP r -/

/-- `CP B` (R91). -/
def execCpB (s : State) : Result := aluOperand .cp (.reg .b) s

/-- `CP C` (R91). -/
def execCpC (s : State) : Result := aluOperand .cp (.reg .c) s

/-- `CP D` (R91). -/
def execCpD (s : State) : Result := aluOperand .cp (.reg .d) s

/-- `CP E` (R91). -/
def execCpE (s : State) : Result := aluOperand .cp (.reg .e) s

/-- `CP H` (R91). -/
def execCpH (s : State) : Result := aluOperand .cp (.reg .h) s

/-- `CP L` (R91). -/
def execCpL (s : State) : Result := aluOperand .cp (.reg .l) s

/-- `CP A` (R91). -/
def execCpA (s : State) : Result := aluOperand .cp (.reg .a) s

/-! ### R92: CP (HL) -/

/-- `CP (HL)` (R92). -/
def execCpAtHl (s : State) : Result := aluOperand .cp .atHl s

/-! ### R93: CP n8 -/

/-- `CP n8` (R93). -/
def execCpN8 (n : Byte) (s : State) : Result := aluImmediate .cp n s

/-! ### R94: INC r -/

/-- `INC B` (R94). -/
def execIncB (s : State) : Result := incOperand (.reg .b) s

/-- `INC C` (R94). -/
def execIncC (s : State) : Result := incOperand (.reg .c) s

/-- `INC D` (R94). -/
def execIncD (s : State) : Result := incOperand (.reg .d) s

/-- `INC E` (R94). -/
def execIncE (s : State) : Result := incOperand (.reg .e) s

/-- `INC H` (R94). -/
def execIncH (s : State) : Result := incOperand (.reg .h) s

/-- `INC L` (R94). -/
def execIncL (s : State) : Result := incOperand (.reg .l) s

/-- `INC A` (R94). -/
def execIncA (s : State) : Result := incOperand (.reg .a) s

/-! ### R95: INC (HL) -/

/-- `INC (HL)` (R95). -/
def execIncAtHl (s : State) : Result := incOperand .atHl s

/-! ### R96: DEC r -/

/-- `DEC B` (R96). -/
def execDecB (s : State) : Result := decOperand (.reg .b) s

/-- `DEC C` (R96). -/
def execDecC (s : State) : Result := decOperand (.reg .c) s

/-- `DEC D` (R96). -/
def execDecD (s : State) : Result := decOperand (.reg .d) s

/-- `DEC E` (R96). -/
def execDecE (s : State) : Result := decOperand (.reg .e) s

/-- `DEC H` (R96). -/
def execDecH (s : State) : Result := decOperand (.reg .h) s

/-- `DEC L` (R96). -/
def execDecL (s : State) : Result := decOperand (.reg .l) s

/-- `DEC A` (R96). -/
def execDecA (s : State) : Result := decOperand (.reg .a) s

/-! ### R97: DEC (HL) -/

/-- `DEC (HL)` (R97). -/
def execDecAtHl (s : State) : Result := decOperand .atHl s

/-! ### R98: DAA -/

/-- `DAA` (R98). -/
def execDaa (s : State) : Result :=
  let res := daaResult s.a (s.flag .n) (s.flag .h) (s.flag .c)
  let carry := daaCarry s.a (s.flag .n) (s.flag .c)
  .next ((((s.setR8 .a res).setFlag .z (res == 0#8)).setFlag .h false).setFlag .c carry)

/-! ### R99: CPL -/

/-- `CPL` (R99). -/
def execCpl (s : State) : Result := .next ((s.setR8 .a (~~~ s.a)).setNH true true)

/-! ### R100: SCF -/

/-- `SCF` (R100). -/
def execScf (s : State) : Result := .next (s.setNHC false false true)

/-! ### R101: CCF -/

/-- `CCF` (R101). -/
def execCcf (s : State) : Result := .next (s.setNHC false false (!s.flag .c))

end Sys2Proof.Machine
end

