-- ==== Sys2Proof/Machine/Control.lean ====
section
/-! DEFINITION. Jumps, calls and returns (45_control.md, R168 to R178): PC is already past the instruction (R62), no flag is written, and a condition that holds adds the extra cycles of its rule. -/

namespace Sys2Proof.Machine

/-- A jump to an address if a condition holds, at 4 extra cycles (R169, R172). -/
def jumpIf (cc : Cond) (target : Word) (s : State) : Result :=
  .next (if s.condition cc then (s.setPc target).charge 4 else s)

/-- The call of an address: PC is pushed, then set (R173, R178). -/
def State.call (s : State) (target : Word) : State := (s.push16 s.pc).setPc target

/-- A call if a condition holds, at 12 extra cycles; not taken, it makes no stack access (R174). -/
def callIf (cc : Cond) (target : Word) (s : State) : Result :=
  .next (if s.condition cc then (s.call target).charge 12 else s)

/-- A return: PC is popped (R175). -/
def State.ret (s : State) : State := s.pop16.2.setPc s.pop16.1

/-- A return if a condition holds, at 12 extra cycles; not taken, it makes no stack access (R176). -/
def retIf (cc : Cond) (s : State) : Result := .next (if s.condition cc then s.ret.charge 12 else s)

/-! ### R168: JP a16 -/

/-- `JP a16` (R168). -/
def execJpA16 (a : Word) (s : State) : Result := .next (s.setPc a)

/-! ### R169: JP cc,a16 -/

/-- `JP NZ,a16` (R169). -/
def execJpNzA16 (a : Word) (s : State) : Result := jumpIf .nz a s

/-- `JP Z,a16` (R169). -/
def execJpZA16 (a : Word) (s : State) : Result := jumpIf .z a s

/-- `JP NC,a16` (R169). -/
def execJpNcA16 (a : Word) (s : State) : Result := jumpIf .nc a s

/-- `JP C,a16` (R169). -/
def execJpCA16 (a : Word) (s : State) : Result := jumpIf .c a s

/-! ### R170: JP HL -/

/-- `JP HL` (R170). -/
def execJpHl (s : State) : Result := .next (s.setPc s.hl)

/-! ### R171: JR e8 -/

/-- `JR e8` (R171). -/
def execJrE8 (e : Byte) (s : State) : Result := .next (s.setPc (s.relativeTarget e))

/-! ### R172: JR cc,e8 -/

/-- `JR NZ,e8` (R172). -/
def execJrNzE8 (e : Byte) (s : State) : Result := jumpIf .nz (s.relativeTarget e) s

/-- `JR Z,e8` (R172). -/
def execJrZE8 (e : Byte) (s : State) : Result := jumpIf .z (s.relativeTarget e) s

/-- `JR NC,e8` (R172). -/
def execJrNcE8 (e : Byte) (s : State) : Result := jumpIf .nc (s.relativeTarget e) s

/-- `JR C,e8` (R172). -/
def execJrCE8 (e : Byte) (s : State) : Result := jumpIf .c (s.relativeTarget e) s

/-! ### R173: CALL a16 -/

/-- `CALL a16` (R173). -/
def execCallA16 (a : Word) (s : State) : Result := .next (s.call a)

/-! ### R174: CALL cc,a16 -/

/-- `CALL NZ,a16` (R174). -/
def execCallNzA16 (a : Word) (s : State) : Result := callIf .nz a s

/-- `CALL Z,a16` (R174). -/
def execCallZA16 (a : Word) (s : State) : Result := callIf .z a s

/-- `CALL NC,a16` (R174). -/
def execCallNcA16 (a : Word) (s : State) : Result := callIf .nc a s

/-- `CALL C,a16` (R174). -/
def execCallCA16 (a : Word) (s : State) : Result := callIf .c a s

/-! ### R175: RET -/

/-- `RET` (R175). -/
def execRet (s : State) : Result := .next s.ret

/-! ### R176: RET cc -/

/-- `RET NZ` (R176). -/
def execRetNz (s : State) : Result := retIf .nz s

/-- `RET Z` (R176). -/
def execRetZ (s : State) : Result := retIf .z s

/-- `RET NC` (R176). -/
def execRetNc (s : State) : Result := retIf .nc s

/-- `RET C` (R176). -/
def execRetC (s : State) : Result := retIf .c s

/-! ### R177: RETI -/

/-- `RETI` (R177). -/
def execReti (s : State) : Result := .next s.returnFromInterrupt

/-! ### R178: RST n -/

/-- `RST 0x00` (R178). -/
def execRst00 (s : State) : Result := .next (s.call (rstAddress .t00))

/-- `RST 0x08` (R178). -/
def execRst08 (s : State) : Result := .next (s.call (rstAddress .t08))

/-- `RST 0x10` (R178). -/
def execRst10 (s : State) : Result := .next (s.call (rstAddress .t10))

/-- `RST 0x18` (R178). -/
def execRst18 (s : State) : Result := .next (s.call (rstAddress .t18))

/-- `RST 0x20` (R178). -/
def execRst20 (s : State) : Result := .next (s.call (rstAddress .t20))

/-- `RST 0x28` (R178). -/
def execRst28 (s : State) : Result := .next (s.call (rstAddress .t28))

/-- `RST 0x30` (R178). -/
def execRst30 (s : State) : Result := .next (s.call (rstAddress .t30))

/-- `RST 0x38` (R178). -/
def execRst38 (s : State) : Result := .next (s.call (rstAddress .t38))

end Sys2Proof.Machine
end

