-- ==== Sys2Proof/Machine/Rotate.lean ====
section
/-! DEFINITION. The accumulator rotates and the CB rotates, shifts and nibble swap (42_rotate_shift_bit.md, R110 to R130). -/

namespace Sys2Proof.Machine

/-- The four accumulator rotates: the result and the carry of the CB form of the same name, and Z=0 always
(R110 to R113). -/
def rotateA (op : ShiftOp) (s : State) : Result :=
  .next ((s.setR8 .a (shiftResult op s.a (s.flag .c))).setFlags false false false (shiftCarry op s.a))

/-- A CB rotate, shift or swap of an operand: one read, one write, then Z, N=0, H=0 and C (R114). -/
def shiftOperand (op : ShiftOp) (o : Operand8) (s : State) : Result :=
  let v := (s.readOperand o).1
  let res := shiftResult op v (s.flag .c)
  .next (((s.readOperand o).2.writeOperand o res).setFlags (res == 0#8) false false (shiftCarry op v))

/-! ### R110: RLCA -/

/-- `RLCA` (R110). -/
def execRlca (s : State) : Result := rotateA .rlc s

/-! ### R111: RRCA -/

/-- `RRCA` (R111). -/
def execRrca (s : State) : Result := rotateA .rrc s

/-! ### R112: RLA -/

/-- `RLA` (R112). -/
def execRla (s : State) : Result := rotateA .rl s

/-! ### R113: RRA -/

/-- `RRA` (R113). -/
def execRra (s : State) : Result := rotateA .rr s

/-! ### R115: RLC r -/

/-- `RLC B` (R115). -/
def execRlcB (s : State) : Result := shiftOperand .rlc (.reg .b) s

/-- `RLC C` (R115). -/
def execRlcC (s : State) : Result := shiftOperand .rlc (.reg .c) s

/-- `RLC D` (R115). -/
def execRlcD (s : State) : Result := shiftOperand .rlc (.reg .d) s

/-- `RLC E` (R115). -/
def execRlcE (s : State) : Result := shiftOperand .rlc (.reg .e) s

/-- `RLC H` (R115). -/
def execRlcH (s : State) : Result := shiftOperand .rlc (.reg .h) s

/-- `RLC L` (R115). -/
def execRlcL (s : State) : Result := shiftOperand .rlc (.reg .l) s

/-- `RLC A` (R115). -/
def execRlcA (s : State) : Result := shiftOperand .rlc (.reg .a) s

/-! ### R116: RLC (HL) -/

/-- `RLC (HL)` (R116). -/
def execRlcAtHl (s : State) : Result := shiftOperand .rlc .atHl s

/-! ### R117: RRC r -/

/-- `RRC B` (R117). -/
def execRrcB (s : State) : Result := shiftOperand .rrc (.reg .b) s

/-- `RRC C` (R117). -/
def execRrcC (s : State) : Result := shiftOperand .rrc (.reg .c) s

/-- `RRC D` (R117). -/
def execRrcD (s : State) : Result := shiftOperand .rrc (.reg .d) s

/-- `RRC E` (R117). -/
def execRrcE (s : State) : Result := shiftOperand .rrc (.reg .e) s

/-- `RRC H` (R117). -/
def execRrcH (s : State) : Result := shiftOperand .rrc (.reg .h) s

/-- `RRC L` (R117). -/
def execRrcL (s : State) : Result := shiftOperand .rrc (.reg .l) s

/-- `RRC A` (R117). -/
def execRrcA (s : State) : Result := shiftOperand .rrc (.reg .a) s

/-! ### R118: RRC (HL) -/

/-- `RRC (HL)` (R118). -/
def execRrcAtHl (s : State) : Result := shiftOperand .rrc .atHl s

/-! ### R119: RL r -/

/-- `RL B` (R119). -/
def execRlB (s : State) : Result := shiftOperand .rl (.reg .b) s

/-- `RL C` (R119). -/
def execRlC (s : State) : Result := shiftOperand .rl (.reg .c) s

/-- `RL D` (R119). -/
def execRlD (s : State) : Result := shiftOperand .rl (.reg .d) s

/-- `RL E` (R119). -/
def execRlE (s : State) : Result := shiftOperand .rl (.reg .e) s

/-- `RL H` (R119). -/
def execRlH (s : State) : Result := shiftOperand .rl (.reg .h) s

/-- `RL L` (R119). -/
def execRlL (s : State) : Result := shiftOperand .rl (.reg .l) s

/-- `RL A` (R119). -/
def execRlA (s : State) : Result := shiftOperand .rl (.reg .a) s

/-! ### R120: RL (HL) -/

/-- `RL (HL)` (R120). -/
def execRlAtHl (s : State) : Result := shiftOperand .rl .atHl s

/-! ### R121: RR r -/

/-- `RR B` (R121). -/
def execRrB (s : State) : Result := shiftOperand .rr (.reg .b) s

/-- `RR C` (R121). -/
def execRrC (s : State) : Result := shiftOperand .rr (.reg .c) s

/-- `RR D` (R121). -/
def execRrD (s : State) : Result := shiftOperand .rr (.reg .d) s

/-- `RR E` (R121). -/
def execRrE (s : State) : Result := shiftOperand .rr (.reg .e) s

/-- `RR H` (R121). -/
def execRrH (s : State) : Result := shiftOperand .rr (.reg .h) s

/-- `RR L` (R121). -/
def execRrL (s : State) : Result := shiftOperand .rr (.reg .l) s

/-- `RR A` (R121). -/
def execRrA (s : State) : Result := shiftOperand .rr (.reg .a) s

/-! ### R122: RR (HL) -/

/-- `RR (HL)` (R122). -/
def execRrAtHl (s : State) : Result := shiftOperand .rr .atHl s

/-! ### R123: SLA r -/

/-- `SLA B` (R123). -/
def execSlaB (s : State) : Result := shiftOperand .sla (.reg .b) s

/-- `SLA C` (R123). -/
def execSlaC (s : State) : Result := shiftOperand .sla (.reg .c) s

/-- `SLA D` (R123). -/
def execSlaD (s : State) : Result := shiftOperand .sla (.reg .d) s

/-- `SLA E` (R123). -/
def execSlaE (s : State) : Result := shiftOperand .sla (.reg .e) s

/-- `SLA H` (R123). -/
def execSlaH (s : State) : Result := shiftOperand .sla (.reg .h) s

/-- `SLA L` (R123). -/
def execSlaL (s : State) : Result := shiftOperand .sla (.reg .l) s

/-- `SLA A` (R123). -/
def execSlaA (s : State) : Result := shiftOperand .sla (.reg .a) s

/-! ### R124: SLA (HL) -/

/-- `SLA (HL)` (R124). -/
def execSlaAtHl (s : State) : Result := shiftOperand .sla .atHl s

/-! ### R125: SRA r -/

/-- `SRA B` (R125). -/
def execSraB (s : State) : Result := shiftOperand .sra (.reg .b) s

/-- `SRA C` (R125). -/
def execSraC (s : State) : Result := shiftOperand .sra (.reg .c) s

/-- `SRA D` (R125). -/
def execSraD (s : State) : Result := shiftOperand .sra (.reg .d) s

/-- `SRA E` (R125). -/
def execSraE (s : State) : Result := shiftOperand .sra (.reg .e) s

/-- `SRA H` (R125). -/
def execSraH (s : State) : Result := shiftOperand .sra (.reg .h) s

/-- `SRA L` (R125). -/
def execSraL (s : State) : Result := shiftOperand .sra (.reg .l) s

/-- `SRA A` (R125). -/
def execSraA (s : State) : Result := shiftOperand .sra (.reg .a) s

/-! ### R126: SRA (HL) -/

/-- `SRA (HL)` (R126). -/
def execSraAtHl (s : State) : Result := shiftOperand .sra .atHl s

/-! ### R127: SWAP r -/

/-- `SWAP B` (R127). -/
def execSwapB (s : State) : Result := shiftOperand .swap (.reg .b) s

/-- `SWAP C` (R127). -/
def execSwapC (s : State) : Result := shiftOperand .swap (.reg .c) s

/-- `SWAP D` (R127). -/
def execSwapD (s : State) : Result := shiftOperand .swap (.reg .d) s

/-- `SWAP E` (R127). -/
def execSwapE (s : State) : Result := shiftOperand .swap (.reg .e) s

/-- `SWAP H` (R127). -/
def execSwapH (s : State) : Result := shiftOperand .swap (.reg .h) s

/-- `SWAP L` (R127). -/
def execSwapL (s : State) : Result := shiftOperand .swap (.reg .l) s

/-- `SWAP A` (R127). -/
def execSwapA (s : State) : Result := shiftOperand .swap (.reg .a) s

/-! ### R128: SWAP (HL) -/

/-- `SWAP (HL)` (R128). -/
def execSwapAtHl (s : State) : Result := shiftOperand .swap .atHl s

/-! ### R129: SRL r -/

/-- `SRL B` (R129). -/
def execSrlB (s : State) : Result := shiftOperand .srl (.reg .b) s

/-- `SRL C` (R129). -/
def execSrlC (s : State) : Result := shiftOperand .srl (.reg .c) s

/-- `SRL D` (R129). -/
def execSrlD (s : State) : Result := shiftOperand .srl (.reg .d) s

/-- `SRL E` (R129). -/
def execSrlE (s : State) : Result := shiftOperand .srl (.reg .e) s

/-- `SRL H` (R129). -/
def execSrlH (s : State) : Result := shiftOperand .srl (.reg .h) s

/-- `SRL L` (R129). -/
def execSrlL (s : State) : Result := shiftOperand .srl (.reg .l) s

/-- `SRL A` (R129). -/
def execSrlA (s : State) : Result := shiftOperand .srl (.reg .a) s

/-! ### R130: SRL (HL) -/

/-- `SRL (HL)` (R130). -/
def execSrlAtHl (s : State) : Result := shiftOperand .srl .atHl s

end Sys2Proof.Machine
end

