-- ==== Sys2Proof/Machine/CpuControl.lean ====
section
/-! DEFINITION. CPU control (46_cpu_control.md, R180 to R186): no flag is written by any of them but through the CB prefix. -/

namespace Sys2Proof.Machine

/-- The state in which HALT decides: after its own reads of IF and then IE (R181). -/
def State.pollForHalt (s : State) : State := (s.logRead ifAddr).logRead ieAddr

/-- Does HALT fail to halt: IME is 0, an interrupt is pending and the parameter HALT_BUG says so (R181, R217). -/
def State.haltFails (s : State) : Bool :=
  !s.ime && pendingBits (s.busRead ifAddr) (s.busRead ieAddr) != 0#8 && s.config.haltBug

/-- The rotate or shift of a 3-bit code (R53). -/
def shiftOfCode (b : BitVec 3) : ShiftOp :=
  match b.toNat with
  | 0 => .rlc
  | 1 => .rrc
  | 2 => .rl
  | 3 => .rr
  | 4 => .sla
  | 5 => .sra
  | 6 => .swap
  | _ => .srl

/-- The bit number of a 3-bit code (R49). -/
def bitOfCode (b : BitVec 3) : BitNumber :=
  match b.toNat with
  | 0 => .b0
  | 1 => .b1
  | 2 => .b2
  | 3 => .b3
  | 4 => .b4
  | 5 => .b5
  | 6 => .b6
  | _ => .b7

/-- The execution of a secondary opcode by its fields: x = bits 7..6, b = bits 5..3, z = bits 2..0
(R49, R53, R57). -/
def executeCb (k : Byte) (s : State) : Result :=
  let o := operand8 (k.extractLsb' 0 3)
  let b := k.extractLsb' 3 3
  match (k.extractLsb' 6 2).toNat with
  | 0 => shiftOperand (shiftOfCode b) o s
  | 1 => bitOperand (bitOfCode b) o s
  | 2 => resOperand (bitOfCode b) o s
  | _ => setOperand (bitOfCode b) o s

/-! ### R180: NOP -/

/-- `NOP` (R180). -/
def execNop (s : State) : Result := .next s

/-! ### R181: HALT -/

/-- `HALT` (R181). -/
def execHalt (s : State) : Result :=
  .next (if s.haltFails then { s.pollForHalt with haltBug := true } else s.pollForHalt.setMode .halted)

/-! ### R182: STOP -/

/-- `STOP` (R182); its second byte is ignored (D31). -/
def execStop (_n : Byte) (s : State) : Result := .next (s.setMode .stopped)

/-! ### R183: DI -/

/-- `DI` (R183). -/
def execDi (s : State) : Result := .next (s.setIme false)

/-! ### R184: EI -/

/-- `EI` (R184). -/
def execEi (s : State) : Result := .next { s with eiPending := true }

/-! ### R185: PREFIX CB -/

/-- `PREFIX CB` (R185). -/
def execPrefixCb (k : Byte) (s : State) : Result := executeCb k s

/-! ### R186: ILLEGAL -/

/-- `ILLEGAL_D3` (R186). -/
def execIllegalD3 (s : State) : Result := s.raiseInvalidOpcode 0xD3#8

/-- `ILLEGAL_DB` (R186). -/
def execIllegalDB (s : State) : Result := s.raiseInvalidOpcode 0xDB#8

/-- `ILLEGAL_DD` (R186). -/
def execIllegalDD (s : State) : Result := s.raiseInvalidOpcode 0xDD#8

/-- `ILLEGAL_E3` (R186). -/
def execIllegalE3 (s : State) : Result := s.raiseInvalidOpcode 0xE3#8

/-- `ILLEGAL_E4` (R186). -/
def execIllegalE4 (s : State) : Result := s.raiseInvalidOpcode 0xE4#8

/-- `ILLEGAL_EB` (R186). -/
def execIllegalEB (s : State) : Result := s.raiseInvalidOpcode 0xEB#8

/-- `ILLEGAL_EC` (R186). -/
def execIllegalEC (s : State) : Result := s.raiseInvalidOpcode 0xEC#8

/-- `ILLEGAL_ED` (R186). -/
def execIllegalED (s : State) : Result := s.raiseInvalidOpcode 0xED#8

/-- `ILLEGAL_F4` (R186). -/
def execIllegalF4 (s : State) : Result := s.raiseInvalidOpcode 0xF4#8

/-- `ILLEGAL_FC` (R186). -/
def execIllegalFC (s : State) : Result := s.raiseInvalidOpcode 0xFC#8

/-- `ILLEGAL_FD` (R186). -/
def execIllegalFD (s : State) : Result := s.raiseInvalidOpcode 0xFD#8

end Sys2Proof.Machine
end

