-- ==== Sys2Proof/Machine/Alu16.lean ====
section
/-! DEFINITION. 16-bit arithmetic (41_alu16.md, R104 to R109): shared operations, then one meaning per instruction. -/

namespace Sys2Proof.Machine

/-- `ADD HL,rr`: N, H and C are written, Z is not (R105). -/
def addHl (p : Pair) (s : State) : Result :=
  .next ((s.setHl (s.hl + s.pair p)).setNHC false (add16H s.hl (s.pair p)) (add16C s.hl (s.pair p)))

/-- `INC rr`: no flag is written (R106). -/
def incWide (p : Pair) (s : State) : Result := .next (s.setPair p (s.pair p + 1))

/-- `DEC rr`: no flag is written (R107). -/
def decWide (p : Pair) (s : State) : Result := .next (s.setPair p (s.pair p - 1))

/-- The flags of a signed-immediate addition to SP: Z=0, N=0, H and C by the parameter (R104, R108, R109, R165). -/
def State.signedAddFlags (s : State) (e : Byte) : State :=
  s.setFlags false false (signedAddH s.config.signedAddFlags s.sp e) (signedAddC s.config.signedAddFlags s.sp e)

/-! ### R105: ADD HL,rr -/

/-- `ADD HL,BC` (R105). -/
def execAddHlBc (s : State) : Result := addHl .bc s

/-- `ADD HL,DE` (R105). -/
def execAddHlDe (s : State) : Result := addHl .de s

/-- `ADD HL,HL` (R105). -/
def execAddHlHl (s : State) : Result := addHl .hl s

/-- `ADD HL,SP` (R105). -/
def execAddHlSp (s : State) : Result := addHl .sp s

/-! ### R106: INC rr -/

/-- `INC BC` (R106). -/
def execIncBc (s : State) : Result := incWide .bc s

/-- `INC DE` (R106). -/
def execIncDe (s : State) : Result := incWide .de s

/-- `INC HL` (R106). -/
def execIncHl (s : State) : Result := incWide .hl s

/-- `INC SP` (R106). -/
def execIncSp (s : State) : Result := incWide .sp s

/-! ### R107: DEC rr -/

/-- `DEC BC` (R107). -/
def execDecBc (s : State) : Result := decWide .bc s

/-- `DEC DE` (R107). -/
def execDecDe (s : State) : Result := decWide .de s

/-- `DEC HL` (R107). -/
def execDecHl (s : State) : Result := decWide .hl s

/-- `DEC SP` (R107). -/
def execDecSp (s : State) : Result := decWide .sp s

/-! ### R108: ADD SP,e8 -/

/-- `ADD SP,e8` (R108). -/
def execAddSpE8 (e : Byte) (s : State) : Result := .next ((s.signedAddFlags e).setSp (signedAdd16 s.sp e))

end Sys2Proof.Machine
end

