-- ==== Sys2Proof/Machine/Load16.lean ====
section
/-! DEFINITION. 16-bit loads and the stack (44_load16_stack.md, R160 to R167): shared operations, then one meaning per instruction. -/

namespace Sys2Proof.Machine

/-- `LD rr,n16` (R162). -/
def ldWide (p : Pair) (n : Word) (s : State) : Result := .next (s.setPair p n)

/-- `PUSH rr` (R166). -/
def pushWide (p : StackPair) (s : State) : Result := .next (s.push16 (s.stackPair p))

/-- `POP rr`: the popped word goes into the pair, into AF with the low nibble of F forced to 0 (R167). -/
def popWide (p : StackPair) (s : State) : Result := .next (s.pop16.2.setStackPair p s.pop16.1)

/-! ### R162: LD rr,n16 -/

/-- `LD BC,n16` (R162). -/
def execLdBcN16 (n : Word) (s : State) : Result := ldWide .bc n s

/-- `LD DE,n16` (R162). -/
def execLdDeN16 (n : Word) (s : State) : Result := ldWide .de n s

/-- `LD HL,n16` (R162). -/
def execLdHlN16 (n : Word) (s : State) : Result := ldWide .hl n s

/-- `LD SP,n16` (R162). -/
def execLdSpN16 (n : Word) (s : State) : Result := ldWide .sp n s

/-! ### R163: LD (a16),SP -/

/-- `LD (a16),SP` (R163). -/
def execLdAtA16Sp (a : Word) (s : State) : Result := .next (s.write16 a s.sp)

/-! ### R164: LD SP,HL -/

/-- `LD SP,HL` (R164). -/
def execLdSpHl (s : State) : Result := .next (s.setSp s.hl)

/-! ### R165: LD HL,SP+e8 -/

/-- `LD HL,SP+e8` (R165). -/
def execLdHlSpE8 (e : Byte) (s : State) : Result := .next ((s.signedAddFlags e).setHl (signedAdd16 s.sp e))

/-! ### R166: PUSH rr -/

/-- `PUSH BC` (R166). -/
def execPushBc (s : State) : Result := pushWide .bc s

/-- `PUSH DE` (R166). -/
def execPushDe (s : State) : Result := pushWide .de s

/-- `PUSH HL` (R166). -/
def execPushHl (s : State) : Result := pushWide .hl s

/-- `PUSH AF` (R166). -/
def execPushAf (s : State) : Result := pushWide .af s

/-! ### R167: POP rr -/

/-- `POP BC` (R167). -/
def execPopBc (s : State) : Result := popWide .bc s

/-- `POP DE` (R167). -/
def execPopDe (s : State) : Result := popWide .de s

/-- `POP HL` (R167). -/
def execPopHl (s : State) : Result := popWide .hl s

/-- `POP AF` (R167). -/
def execPopAf (s : State) : Result := popWide .af s

end Sys2Proof.Machine
end

