-- ==== Sys2Proof/Machine/Load8.lean ====
section
/-! DEFINITION. 8-bit loads and stores (43_load8.md, R141 to R159): no flag is written by any of them. -/

namespace Sys2Proof.Machine

/-- A load or store between two operands: the source is read, then the destination written (R141, R143, R144). -/
def ldOperand (d source : Operand8) (s : State) : Result :=
  .next ((s.readOperand source).2.writeOperand d (s.readOperand source).1)

/-- A load of an immediate into an operand (R142, R145). -/
def ldImmediate (d : Operand8) (n : Byte) (s : State) : Result := .next (s.writeOperand d n)

/-- A load of A from an address, by one read (R146, R147, R150, R152, R154). -/
def ldAFrom (addr : Word) (s : State) : Result := .next ((s.memRead addr).2.setR8 .a (s.memRead addr).1)

/-- A store of A to an address, by one write (R148, R149, R151, R153, R155). -/
def stAAt (addr : Word) (s : State) : Result := .next (s.memWrite addr s.a)

/-- A load of A from HL, then HL stepped by a displacement: the address is HL as it was (R156, R158). -/
def ldAStep (step : Word) (s : State) : Result :=
  .next (((s.memRead s.hl).2.setR8 .a (s.memRead s.hl).1).setHl (s.hl + step))

/-- A store of A at HL, then HL stepped by a displacement: the address is HL as it was (R157, R159). -/
def stAStep (step : Word) (s : State) : Result := .next ((s.memWrite s.hl s.a).setHl (s.hl + step))

/-! ### R141: LD r,r' -/

/-- `LD B,B` (R141). -/
def execLdBB (s : State) : Result := ldOperand (.reg .b) (.reg .b) s

/-- `LD B,C` (R141). -/
def execLdBC (s : State) : Result := ldOperand (.reg .b) (.reg .c) s

/-- `LD B,D` (R141). -/
def execLdBD (s : State) : Result := ldOperand (.reg .b) (.reg .d) s

/-- `LD B,E` (R141). -/
def execLdBE (s : State) : Result := ldOperand (.reg .b) (.reg .e) s

/-- `LD B,H` (R141). -/
def execLdBH (s : State) : Result := ldOperand (.reg .b) (.reg .h) s

/-- `LD B,L` (R141). -/
def execLdBL (s : State) : Result := ldOperand (.reg .b) (.reg .l) s

/-- `LD B,A` (R141). -/
def execLdBA (s : State) : Result := ldOperand (.reg .b) (.reg .a) s

/-- `LD C,B` (R141). -/
def execLdCB (s : State) : Result := ldOperand (.reg .c) (.reg .b) s

/-- `LD C,C` (R141). -/
def execLdCC (s : State) : Result := ldOperand (.reg .c) (.reg .c) s

/-- `LD C,D` (R141). -/
def execLdCD (s : State) : Result := ldOperand (.reg .c) (.reg .d) s

/-- `LD C,E` (R141). -/
def execLdCE (s : State) : Result := ldOperand (.reg .c) (.reg .e) s

/-- `LD C,H` (R141). -/
def execLdCH (s : State) : Result := ldOperand (.reg .c) (.reg .h) s

/-- `LD C,L` (R141). -/
def execLdCL (s : State) : Result := ldOperand (.reg .c) (.reg .l) s

/-- `LD C,A` (R141). -/
def execLdCA (s : State) : Result := ldOperand (.reg .c) (.reg .a) s

/-- `LD D,B` (R141). -/
def execLdDB (s : State) : Result := ldOperand (.reg .d) (.reg .b) s

/-- `LD D,C` (R141). -/
def execLdDC (s : State) : Result := ldOperand (.reg .d) (.reg .c) s

/-- `LD D,D` (R141). -/
def execLdDD (s : State) : Result := ldOperand (.reg .d) (.reg .d) s

/-- `LD D,E` (R141). -/
def execLdDE (s : State) : Result := ldOperand (.reg .d) (.reg .e) s

/-- `LD D,H` (R141). -/
def execLdDH (s : State) : Result := ldOperand (.reg .d) (.reg .h) s

/-- `LD D,L` (R141). -/
def execLdDL (s : State) : Result := ldOperand (.reg .d) (.reg .l) s

/-- `LD D,A` (R141). -/
def execLdDA (s : State) : Result := ldOperand (.reg .d) (.reg .a) s

/-- `LD E,B` (R141). -/
def execLdEB (s : State) : Result := ldOperand (.reg .e) (.reg .b) s

/-- `LD E,C` (R141). -/
def execLdEC (s : State) : Result := ldOperand (.reg .e) (.reg .c) s

/-- `LD E,D` (R141). -/
def execLdED (s : State) : Result := ldOperand (.reg .e) (.reg .d) s

/-- `LD E,E` (R141). -/
def execLdEE (s : State) : Result := ldOperand (.reg .e) (.reg .e) s

/-- `LD E,H` (R141). -/
def execLdEH (s : State) : Result := ldOperand (.reg .e) (.reg .h) s

/-- `LD E,L` (R141). -/
def execLdEL (s : State) : Result := ldOperand (.reg .e) (.reg .l) s

/-- `LD E,A` (R141). -/
def execLdEA (s : State) : Result := ldOperand (.reg .e) (.reg .a) s

/-- `LD H,B` (R141). -/
def execLdHB (s : State) : Result := ldOperand (.reg .h) (.reg .b) s

/-- `LD H,C` (R141). -/
def execLdHC (s : State) : Result := ldOperand (.reg .h) (.reg .c) s

/-- `LD H,D` (R141). -/
def execLdHD (s : State) : Result := ldOperand (.reg .h) (.reg .d) s

/-- `LD H,E` (R141). -/
def execLdHE (s : State) : Result := ldOperand (.reg .h) (.reg .e) s

/-- `LD H,H` (R141). -/
def execLdHH (s : State) : Result := ldOperand (.reg .h) (.reg .h) s

/-- `LD H,L` (R141). -/
def execLdHL (s : State) : Result := ldOperand (.reg .h) (.reg .l) s

/-- `LD H,A` (R141). -/
def execLdHA (s : State) : Result := ldOperand (.reg .h) (.reg .a) s

/-- `LD L,B` (R141). -/
def execLdLB (s : State) : Result := ldOperand (.reg .l) (.reg .b) s

/-- `LD L,C` (R141). -/
def execLdLC (s : State) : Result := ldOperand (.reg .l) (.reg .c) s

/-- `LD L,D` (R141). -/
def execLdLD (s : State) : Result := ldOperand (.reg .l) (.reg .d) s

/-- `LD L,E` (R141). -/
def execLdLE (s : State) : Result := ldOperand (.reg .l) (.reg .e) s

/-- `LD L,H` (R141). -/
def execLdLH (s : State) : Result := ldOperand (.reg .l) (.reg .h) s

/-- `LD L,L` (R141). -/
def execLdLL (s : State) : Result := ldOperand (.reg .l) (.reg .l) s

/-- `LD L,A` (R141). -/
def execLdLA (s : State) : Result := ldOperand (.reg .l) (.reg .a) s

/-- `LD A,B` (R141). -/
def execLdAB (s : State) : Result := ldOperand (.reg .a) (.reg .b) s

/-- `LD A,C` (R141). -/
def execLdAC (s : State) : Result := ldOperand (.reg .a) (.reg .c) s

/-- `LD A,D` (R141). -/
def execLdAD (s : State) : Result := ldOperand (.reg .a) (.reg .d) s

/-- `LD A,E` (R141). -/
def execLdAE (s : State) : Result := ldOperand (.reg .a) (.reg .e) s

/-- `LD A,H` (R141). -/
def execLdAH (s : State) : Result := ldOperand (.reg .a) (.reg .h) s

/-- `LD A,L` (R141). -/
def execLdAL (s : State) : Result := ldOperand (.reg .a) (.reg .l) s

/-- `LD A,A` (R141). -/
def execLdAA (s : State) : Result := ldOperand (.reg .a) (.reg .a) s

/-! ### R142: LD r,n8 -/

/-- `LD B,n8` (R142). -/
def execLdBN8 (n : Byte) (s : State) : Result := ldImmediate (.reg .b) n s

/-- `LD C,n8` (R142). -/
def execLdCN8 (n : Byte) (s : State) : Result := ldImmediate (.reg .c) n s

/-- `LD D,n8` (R142). -/
def execLdDN8 (n : Byte) (s : State) : Result := ldImmediate (.reg .d) n s

/-- `LD E,n8` (R142). -/
def execLdEN8 (n : Byte) (s : State) : Result := ldImmediate (.reg .e) n s

/-- `LD H,n8` (R142). -/
def execLdHN8 (n : Byte) (s : State) : Result := ldImmediate (.reg .h) n s

/-- `LD L,n8` (R142). -/
def execLdLN8 (n : Byte) (s : State) : Result := ldImmediate (.reg .l) n s

/-- `LD A,n8` (R142). -/
def execLdAN8 (n : Byte) (s : State) : Result := ldImmediate (.reg .a) n s

/-! ### R143: LD r,(HL) -/

/-- `LD B,(HL)` (R143). -/
def execLdBAtHl (s : State) : Result := ldOperand (.reg .b) .atHl s

/-- `LD C,(HL)` (R143). -/
def execLdCAtHl (s : State) : Result := ldOperand (.reg .c) .atHl s

/-- `LD D,(HL)` (R143). -/
def execLdDAtHl (s : State) : Result := ldOperand (.reg .d) .atHl s

/-- `LD E,(HL)` (R143). -/
def execLdEAtHl (s : State) : Result := ldOperand (.reg .e) .atHl s

/-- `LD H,(HL)` (R143). -/
def execLdHAtHl (s : State) : Result := ldOperand (.reg .h) .atHl s

/-- `LD L,(HL)` (R143). -/
def execLdLAtHl (s : State) : Result := ldOperand (.reg .l) .atHl s

/-- `LD A,(HL)` (R143). -/
def execLdAAtHl (s : State) : Result := ldOperand (.reg .a) .atHl s

/-! ### R144: LD (HL),r -/

/-- `LD (HL),B` (R144). -/
def execLdAtHlB (s : State) : Result := ldOperand .atHl (.reg .b) s

/-- `LD (HL),C` (R144). -/
def execLdAtHlC (s : State) : Result := ldOperand .atHl (.reg .c) s

/-- `LD (HL),D` (R144). -/
def execLdAtHlD (s : State) : Result := ldOperand .atHl (.reg .d) s

/-- `LD (HL),E` (R144). -/
def execLdAtHlE (s : State) : Result := ldOperand .atHl (.reg .e) s

/-- `LD (HL),H` (R144). -/
def execLdAtHlH (s : State) : Result := ldOperand .atHl (.reg .h) s

/-- `LD (HL),L` (R144). -/
def execLdAtHlL (s : State) : Result := ldOperand .atHl (.reg .l) s

/-- `LD (HL),A` (R144). -/
def execLdAtHlA (s : State) : Result := ldOperand .atHl (.reg .a) s

/-! ### R145: LD (HL),n8 -/

/-- `LD (HL),n8` (R145). -/
def execLdAtHlN8 (n : Byte) (s : State) : Result := ldImmediate .atHl n s

/-! ### R146: LD A,(BC) -/

/-- `LD A,(BC)` (R146). -/
def execLdAAtBc (s : State) : Result := ldAFrom s.bc s

/-! ### R147: LD A,(DE) -/

/-- `LD A,(DE)` (R147). -/
def execLdAAtDe (s : State) : Result := ldAFrom s.de s

/-! ### R148: LD (BC),A -/

/-- `LD (BC),A` (R148). -/
def execLdAtBcA (s : State) : Result := stAAt s.bc s

/-! ### R149: LD (DE),A -/

/-- `LD (DE),A` (R149). -/
def execLdAtDeA (s : State) : Result := stAAt s.de s

/-! ### R150: LD A,(a16) -/

/-- `LD A,(a16)` (R150). -/
def execLdAAtA16 (a : Word) (s : State) : Result := ldAFrom a s

/-! ### R151: LD (a16),A -/

/-- `LD (a16),A` (R151). -/
def execLdAtA16A (a : Word) (s : State) : Result := stAAt a s

/-! ### R152: LDH A,(C) -/

/-- `LDH A,(C)` (R152). -/
def execLdhAAtC (s : State) : Result := ldAFrom (highPage s.c) s

/-! ### R153: LDH (C),A -/

/-- `LDH (C),A` (R153). -/
def execLdhAtCA (s : State) : Result := stAAt (highPage s.c) s

/-! ### R154: LDH A,(a8) -/

/-- `LDH A,(a8)` (R154). -/
def execLdhAAtA8 (o : Byte) (s : State) : Result := ldAFrom (highPage o) s

/-! ### R155: LDH (a8),A -/

/-- `LDH (a8),A` (R155). -/
def execLdhAtA8A (o : Byte) (s : State) : Result := stAAt (highPage o) s

/-! ### R156: LD A,(HL-) -/

/-- `LD A,(HL-)` (R156). -/
def execLdAAtHld (s : State) : Result := ldAStep 0xFFFF#16 s

/-! ### R157: LD (HL-),A -/

/-- `LD (HL-),A` (R157). -/
def execLdAtHldA (s : State) : Result := stAStep 0xFFFF#16 s

/-! ### R158: LD A,(HL+) -/

/-- `LD A,(HL+)` (R158). -/
def execLdAAtHli (s : State) : Result := ldAStep 0x0001#16 s

/-! ### R159: LD (HL+),A -/

/-- `LD (HL+),A` (R159). -/
def execLdAtHliA (s : State) : Result := stAStep 0x0001#16 s

end Sys2Proof.Machine
end

