-- ==== Sys2Proof/Machine/Dispatch.lean ====
section
/-! DEFINITION. exec: one arm per constructor of Instr, each one direct call of the instruction's meaning. -/

namespace Sys2Proof.Machine

def exec (i : Instr) (s : State) : Host.Outcome State Fault Refusal :=
  match i with
  -- R70: ADD A,r
  | .addAB => Sys2Proof.Machine.execAddAB s
  | .addAC => Sys2Proof.Machine.execAddAC s
  | .addAD => Sys2Proof.Machine.execAddAD s
  | .addAE => Sys2Proof.Machine.execAddAE s
  | .addAH => Sys2Proof.Machine.execAddAH s
  | .addAL => Sys2Proof.Machine.execAddAL s
  | .addAA => Sys2Proof.Machine.execAddAA s
  -- R71: ADD A,(HL)
  | .addAAtHl => Sys2Proof.Machine.execAddAAtHl s
  -- R72: ADD A,n8
  | .addAN8 n => Sys2Proof.Machine.execAddAN8 n s
  -- R73: ADC A,r
  | .adcAB => Sys2Proof.Machine.execAdcAB s
  | .adcAC => Sys2Proof.Machine.execAdcAC s
  | .adcAD => Sys2Proof.Machine.execAdcAD s
  | .adcAE => Sys2Proof.Machine.execAdcAE s
  | .adcAH => Sys2Proof.Machine.execAdcAH s
  | .adcAL => Sys2Proof.Machine.execAdcAL s
  | .adcAA => Sys2Proof.Machine.execAdcAA s
  -- R74: ADC A,(HL)
  | .adcAAtHl => Sys2Proof.Machine.execAdcAAtHl s
  -- R75: ADC A,n8
  | .adcAN8 n => Sys2Proof.Machine.execAdcAN8 n s
  -- R76: SUB r
  | .subB => Sys2Proof.Machine.execSubB s
  | .subC => Sys2Proof.Machine.execSubC s
  | .subD => Sys2Proof.Machine.execSubD s
  | .subE => Sys2Proof.Machine.execSubE s
  | .subH => Sys2Proof.Machine.execSubH s
  | .subL => Sys2Proof.Machine.execSubL s
  | .subA => Sys2Proof.Machine.execSubA s
  -- R77: SUB (HL)
  | .subAtHl => Sys2Proof.Machine.execSubAtHl s
  -- R78: SUB n8
  | .subN8 n => Sys2Proof.Machine.execSubN8 n s
  -- R79: SBC A,r
  | .sbcAB => Sys2Proof.Machine.execSbcAB s
  | .sbcAC => Sys2Proof.Machine.execSbcAC s
  | .sbcAD => Sys2Proof.Machine.execSbcAD s
  | .sbcAE => Sys2Proof.Machine.execSbcAE s
  | .sbcAH => Sys2Proof.Machine.execSbcAH s
  | .sbcAL => Sys2Proof.Machine.execSbcAL s
  | .sbcAA => Sys2Proof.Machine.execSbcAA s
  -- R80: SBC A,(HL)
  | .sbcAAtHl => Sys2Proof.Machine.execSbcAAtHl s
  -- R81: SBC A,n8
  | .sbcAN8 n => Sys2Proof.Machine.execSbcAN8 n s
  -- R82: AND r
  | .andB => Sys2Proof.Machine.execAndB s
  | .andC => Sys2Proof.Machine.execAndC s
  | .andD => Sys2Proof.Machine.execAndD s
  | .andE => Sys2Proof.Machine.execAndE s
  | .andH => Sys2Proof.Machine.execAndH s
  | .andL => Sys2Proof.Machine.execAndL s
  | .andA => Sys2Proof.Machine.execAndA s
  -- R83: AND (HL)
  | .andAtHl => Sys2Proof.Machine.execAndAtHl s
  -- R84: AND n8
  | .andN8 n => Sys2Proof.Machine.execAndN8 n s
  -- R85: XOR r
  | .xorB => Sys2Proof.Machine.execXorB s
  | .xorC => Sys2Proof.Machine.execXorC s
  | .xorD => Sys2Proof.Machine.execXorD s
  | .xorE => Sys2Proof.Machine.execXorE s
  | .xorH => Sys2Proof.Machine.execXorH s
  | .xorL => Sys2Proof.Machine.execXorL s
  | .xorA => Sys2Proof.Machine.execXorA s
  -- R86: XOR (HL)
  | .xorAtHl => Sys2Proof.Machine.execXorAtHl s
  -- R87: XOR n8
  | .xorN8 n => Sys2Proof.Machine.execXorN8 n s
  -- R88: OR r
  | .orB => Sys2Proof.Machine.execOrB s
  | .orC => Sys2Proof.Machine.execOrC s
  | .orD => Sys2Proof.Machine.execOrD s
  | .orE => Sys2Proof.Machine.execOrE s
  | .orH => Sys2Proof.Machine.execOrH s
  | .orL => Sys2Proof.Machine.execOrL s
  | .orA => Sys2Proof.Machine.execOrA s
  -- R89: OR (HL)
  | .orAtHl => Sys2Proof.Machine.execOrAtHl s
  -- R90: OR n8
  | .orN8 n => Sys2Proof.Machine.execOrN8 n s
  -- R91: CP r
  | .cpB => Sys2Proof.Machine.execCpB s
  | .cpC => Sys2Proof.Machine.execCpC s
  | .cpD => Sys2Proof.Machine.execCpD s
  | .cpE => Sys2Proof.Machine.execCpE s
  | .cpH => Sys2Proof.Machine.execCpH s
  | .cpL => Sys2Proof.Machine.execCpL s
  | .cpA => Sys2Proof.Machine.execCpA s
  -- R92: CP (HL)
  | .cpAtHl => Sys2Proof.Machine.execCpAtHl s
  -- R93: CP n8
  | .cpN8 n => Sys2Proof.Machine.execCpN8 n s
  -- R94: INC r
  | .incB => Sys2Proof.Machine.execIncB s
  | .incC => Sys2Proof.Machine.execIncC s
  | .incD => Sys2Proof.Machine.execIncD s
  | .incE => Sys2Proof.Machine.execIncE s
  | .incH => Sys2Proof.Machine.execIncH s
  | .incL => Sys2Proof.Machine.execIncL s
  | .incA => Sys2Proof.Machine.execIncA s
  -- R95: INC (HL)
  | .incAtHl => Sys2Proof.Machine.execIncAtHl s
  -- R96: DEC r
  | .decB => Sys2Proof.Machine.execDecB s
  | .decC => Sys2Proof.Machine.execDecC s
  | .decD => Sys2Proof.Machine.execDecD s
  | .decE => Sys2Proof.Machine.execDecE s
  | .decH => Sys2Proof.Machine.execDecH s
  | .decL => Sys2Proof.Machine.execDecL s
  | .decA => Sys2Proof.Machine.execDecA s
  -- R97: DEC (HL)
  | .decAtHl => Sys2Proof.Machine.execDecAtHl s
  -- R98: DAA
  | .daa => Sys2Proof.Machine.execDaa s
  -- R99: CPL
  | .cpl => Sys2Proof.Machine.execCpl s
  -- R100: SCF
  | .scf => Sys2Proof.Machine.execScf s
  -- R101: CCF
  | .ccf => Sys2Proof.Machine.execCcf s
  -- R105: ADD HL,rr
  | .addHlBc => Sys2Proof.Machine.execAddHlBc s
  | .addHlDe => Sys2Proof.Machine.execAddHlDe s
  | .addHlHl => Sys2Proof.Machine.execAddHlHl s
  | .addHlSp => Sys2Proof.Machine.execAddHlSp s
  -- R106: INC rr
  | .incBc => Sys2Proof.Machine.execIncBc s
  | .incDe => Sys2Proof.Machine.execIncDe s
  | .incHl => Sys2Proof.Machine.execIncHl s
  | .incSp => Sys2Proof.Machine.execIncSp s
  -- R107: DEC rr
  | .decBc => Sys2Proof.Machine.execDecBc s
  | .decDe => Sys2Proof.Machine.execDecDe s
  | .decHl => Sys2Proof.Machine.execDecHl s
  | .decSp => Sys2Proof.Machine.execDecSp s
  -- R108: ADD SP,e8
  | .addSpE8 e => Sys2Proof.Machine.execAddSpE8 e s
  -- R110: RLCA
  | .rlca => Sys2Proof.Machine.execRlca s
  -- R111: RRCA
  | .rrca => Sys2Proof.Machine.execRrca s
  -- R112: RLA
  | .rla => Sys2Proof.Machine.execRla s
  -- R113: RRA
  | .rra => Sys2Proof.Machine.execRra s
  -- R115: RLC r
  | .rlcB => Sys2Proof.Machine.execRlcB s
  | .rlcC => Sys2Proof.Machine.execRlcC s
  | .rlcD => Sys2Proof.Machine.execRlcD s
  | .rlcE => Sys2Proof.Machine.execRlcE s
  | .rlcH => Sys2Proof.Machine.execRlcH s
  | .rlcL => Sys2Proof.Machine.execRlcL s
  | .rlcA => Sys2Proof.Machine.execRlcA s
  -- R116: RLC (HL)
  | .rlcAtHl => Sys2Proof.Machine.execRlcAtHl s
  -- R117: RRC r
  | .rrcB => Sys2Proof.Machine.execRrcB s
  | .rrcC => Sys2Proof.Machine.execRrcC s
  | .rrcD => Sys2Proof.Machine.execRrcD s
  | .rrcE => Sys2Proof.Machine.execRrcE s
  | .rrcH => Sys2Proof.Machine.execRrcH s
  | .rrcL => Sys2Proof.Machine.execRrcL s
  | .rrcA => Sys2Proof.Machine.execRrcA s
  -- R118: RRC (HL)
  | .rrcAtHl => Sys2Proof.Machine.execRrcAtHl s
  -- R119: RL r
  | .rlB => Sys2Proof.Machine.execRlB s
  | .rlC => Sys2Proof.Machine.execRlC s
  | .rlD => Sys2Proof.Machine.execRlD s
  | .rlE => Sys2Proof.Machine.execRlE s
  | .rlH => Sys2Proof.Machine.execRlH s
  | .rlL => Sys2Proof.Machine.execRlL s
  | .rlA => Sys2Proof.Machine.execRlA s
  -- R120: RL (HL)
  | .rlAtHl => Sys2Proof.Machine.execRlAtHl s
  -- R121: RR r
  | .rrB => Sys2Proof.Machine.execRrB s
  | .rrC => Sys2Proof.Machine.execRrC s
  | .rrD => Sys2Proof.Machine.execRrD s
  | .rrE => Sys2Proof.Machine.execRrE s
  | .rrH => Sys2Proof.Machine.execRrH s
  | .rrL => Sys2Proof.Machine.execRrL s
  | .rrA => Sys2Proof.Machine.execRrA s
  -- R122: RR (HL)
  | .rrAtHl => Sys2Proof.Machine.execRrAtHl s
  -- R123: SLA r
  | .slaB => Sys2Proof.Machine.execSlaB s
  | .slaC => Sys2Proof.Machine.execSlaC s
  | .slaD => Sys2Proof.Machine.execSlaD s
  | .slaE => Sys2Proof.Machine.execSlaE s
  | .slaH => Sys2Proof.Machine.execSlaH s
  | .slaL => Sys2Proof.Machine.execSlaL s
  | .slaA => Sys2Proof.Machine.execSlaA s
  -- R124: SLA (HL)
  | .slaAtHl => Sys2Proof.Machine.execSlaAtHl s
  -- R125: SRA r
  | .sraB => Sys2Proof.Machine.execSraB s
  | .sraC => Sys2Proof.Machine.execSraC s
  | .sraD => Sys2Proof.Machine.execSraD s
  | .sraE => Sys2Proof.Machine.execSraE s
  | .sraH => Sys2Proof.Machine.execSraH s
  | .sraL => Sys2Proof.Machine.execSraL s
  | .sraA => Sys2Proof.Machine.execSraA s
  -- R126: SRA (HL)
  | .sraAtHl => Sys2Proof.Machine.execSraAtHl s
  -- R127: SWAP r
  | .swapB => Sys2Proof.Machine.execSwapB s
  | .swapC => Sys2Proof.Machine.execSwapC s
  | .swapD => Sys2Proof.Machine.execSwapD s
  | .swapE => Sys2Proof.Machine.execSwapE s
  | .swapH => Sys2Proof.Machine.execSwapH s
  | .swapL => Sys2Proof.Machine.execSwapL s
  | .swapA => Sys2Proof.Machine.execSwapA s
  -- R128: SWAP (HL)
  | .swapAtHl => Sys2Proof.Machine.execSwapAtHl s
  -- R129: SRL r
  | .srlB => Sys2Proof.Machine.execSrlB s
  | .srlC => Sys2Proof.Machine.execSrlC s
  | .srlD => Sys2Proof.Machine.execSrlD s
  | .srlE => Sys2Proof.Machine.execSrlE s
  | .srlH => Sys2Proof.Machine.execSrlH s
  | .srlL => Sys2Proof.Machine.execSrlL s
  | .srlA => Sys2Proof.Machine.execSrlA s
  -- R130: SRL (HL)
  | .srlAtHl => Sys2Proof.Machine.execSrlAtHl s
  -- R131: BIT b,r
  | .bit0B => Sys2Proof.Machine.execBit0B s
  | .bit0C => Sys2Proof.Machine.execBit0C s
  | .bit0D => Sys2Proof.Machine.execBit0D s
  | .bit0E => Sys2Proof.Machine.execBit0E s
  | .bit0H => Sys2Proof.Machine.execBit0H s
  | .bit0L => Sys2Proof.Machine.execBit0L s
  | .bit0A => Sys2Proof.Machine.execBit0A s
  | .bit1B => Sys2Proof.Machine.execBit1B s
  | .bit1C => Sys2Proof.Machine.execBit1C s
  | .bit1D => Sys2Proof.Machine.execBit1D s
  | .bit1E => Sys2Proof.Machine.execBit1E s
  | .bit1H => Sys2Proof.Machine.execBit1H s
  | .bit1L => Sys2Proof.Machine.execBit1L s
  | .bit1A => Sys2Proof.Machine.execBit1A s
  | .bit2B => Sys2Proof.Machine.execBit2B s
  | .bit2C => Sys2Proof.Machine.execBit2C s
  | .bit2D => Sys2Proof.Machine.execBit2D s
  | .bit2E => Sys2Proof.Machine.execBit2E s
  | .bit2H => Sys2Proof.Machine.execBit2H s
  | .bit2L => Sys2Proof.Machine.execBit2L s
  | .bit2A => Sys2Proof.Machine.execBit2A s
  | .bit3B => Sys2Proof.Machine.execBit3B s
  | .bit3C => Sys2Proof.Machine.execBit3C s
  | .bit3D => Sys2Proof.Machine.execBit3D s
  | .bit3E => Sys2Proof.Machine.execBit3E s
  | .bit3H => Sys2Proof.Machine.execBit3H s
  | .bit3L => Sys2Proof.Machine.execBit3L s
  | .bit3A => Sys2Proof.Machine.execBit3A s
  | .bit4B => Sys2Proof.Machine.execBit4B s
  | .bit4C => Sys2Proof.Machine.execBit4C s
  | .bit4D => Sys2Proof.Machine.execBit4D s
  | .bit4E => Sys2Proof.Machine.execBit4E s
  | .bit4H => Sys2Proof.Machine.execBit4H s
  | .bit4L => Sys2Proof.Machine.execBit4L s
  | .bit4A => Sys2Proof.Machine.execBit4A s
  | .bit5B => Sys2Proof.Machine.execBit5B s
  | .bit5C => Sys2Proof.Machine.execBit5C s
  | .bit5D => Sys2Proof.Machine.execBit5D s
  | .bit5E => Sys2Proof.Machine.execBit5E s
  | .bit5H => Sys2Proof.Machine.execBit5H s
  | .bit5L => Sys2Proof.Machine.execBit5L s
  | .bit5A => Sys2Proof.Machine.execBit5A s
  | .bit6B => Sys2Proof.Machine.execBit6B s
  | .bit6C => Sys2Proof.Machine.execBit6C s
  | .bit6D => Sys2Proof.Machine.execBit6D s
  | .bit6E => Sys2Proof.Machine.execBit6E s
  | .bit6H => Sys2Proof.Machine.execBit6H s
  | .bit6L => Sys2Proof.Machine.execBit6L s
  | .bit6A => Sys2Proof.Machine.execBit6A s
  | .bit7B => Sys2Proof.Machine.execBit7B s
  | .bit7C => Sys2Proof.Machine.execBit7C s
  | .bit7D => Sys2Proof.Machine.execBit7D s
  | .bit7E => Sys2Proof.Machine.execBit7E s
  | .bit7H => Sys2Proof.Machine.execBit7H s
  | .bit7L => Sys2Proof.Machine.execBit7L s
  | .bit7A => Sys2Proof.Machine.execBit7A s
  -- R132: BIT b,(HL)
  | .bit0AtHl => Sys2Proof.Machine.execBit0AtHl s
  | .bit1AtHl => Sys2Proof.Machine.execBit1AtHl s
  | .bit2AtHl => Sys2Proof.Machine.execBit2AtHl s
  | .bit3AtHl => Sys2Proof.Machine.execBit3AtHl s
  | .bit4AtHl => Sys2Proof.Machine.execBit4AtHl s
  | .bit5AtHl => Sys2Proof.Machine.execBit5AtHl s
  | .bit6AtHl => Sys2Proof.Machine.execBit6AtHl s
  | .bit7AtHl => Sys2Proof.Machine.execBit7AtHl s
  -- R133: RES b,r
  | .res0B => Sys2Proof.Machine.execRes0B s
  | .res0C => Sys2Proof.Machine.execRes0C s
  | .res0D => Sys2Proof.Machine.execRes0D s
  | .res0E => Sys2Proof.Machine.execRes0E s
  | .res0H => Sys2Proof.Machine.execRes0H s
  | .res0L => Sys2Proof.Machine.execRes0L s
  | .res0A => Sys2Proof.Machine.execRes0A s
  | .res1B => Sys2Proof.Machine.execRes1B s
  | .res1C => Sys2Proof.Machine.execRes1C s
  | .res1D => Sys2Proof.Machine.execRes1D s
  | .res1E => Sys2Proof.Machine.execRes1E s
  | .res1H => Sys2Proof.Machine.execRes1H s
  | .res1L => Sys2Proof.Machine.execRes1L s
  | .res1A => Sys2Proof.Machine.execRes1A s
  | .res2B => Sys2Proof.Machine.execRes2B s
  | .res2C => Sys2Proof.Machine.execRes2C s
  | .res2D => Sys2Proof.Machine.execRes2D s
  | .res2E => Sys2Proof.Machine.execRes2E s
  | .res2H => Sys2Proof.Machine.execRes2H s
  | .res2L => Sys2Proof.Machine.execRes2L s
  | .res2A => Sys2Proof.Machine.execRes2A s
  | .res3B => Sys2Proof.Machine.execRes3B s
  | .res3C => Sys2Proof.Machine.execRes3C s
  | .res3D => Sys2Proof.Machine.execRes3D s
  | .res3E => Sys2Proof.Machine.execRes3E s
  | .res3H => Sys2Proof.Machine.execRes3H s
  | .res3L => Sys2Proof.Machine.execRes3L s
  | .res3A => Sys2Proof.Machine.execRes3A s
  | .res4B => Sys2Proof.Machine.execRes4B s
  | .res4C => Sys2Proof.Machine.execRes4C s
  | .res4D => Sys2Proof.Machine.execRes4D s
  | .res4E => Sys2Proof.Machine.execRes4E s
  | .res4H => Sys2Proof.Machine.execRes4H s
  | .res4L => Sys2Proof.Machine.execRes4L s
  | .res4A => Sys2Proof.Machine.execRes4A s
  | .res5B => Sys2Proof.Machine.execRes5B s
  | .res5C => Sys2Proof.Machine.execRes5C s
  | .res5D => Sys2Proof.Machine.execRes5D s
  | .res5E => Sys2Proof.Machine.execRes5E s
  | .res5H => Sys2Proof.Machine.execRes5H s
  | .res5L => Sys2Proof.Machine.execRes5L s
  | .res5A => Sys2Proof.Machine.execRes5A s
  | .res6B => Sys2Proof.Machine.execRes6B s
  | .res6C => Sys2Proof.Machine.execRes6C s
  | .res6D => Sys2Proof.Machine.execRes6D s
  | .res6E => Sys2Proof.Machine.execRes6E s
  | .res6H => Sys2Proof.Machine.execRes6H s
  | .res6L => Sys2Proof.Machine.execRes6L s
  | .res6A => Sys2Proof.Machine.execRes6A s
  | .res7B => Sys2Proof.Machine.execRes7B s
  | .res7C => Sys2Proof.Machine.execRes7C s
  | .res7D => Sys2Proof.Machine.execRes7D s
  | .res7E => Sys2Proof.Machine.execRes7E s
  | .res7H => Sys2Proof.Machine.execRes7H s
  | .res7L => Sys2Proof.Machine.execRes7L s
  | .res7A => Sys2Proof.Machine.execRes7A s
  -- R134: RES b,(HL)
  | .res0AtHl => Sys2Proof.Machine.execRes0AtHl s
  | .res1AtHl => Sys2Proof.Machine.execRes1AtHl s
  | .res2AtHl => Sys2Proof.Machine.execRes2AtHl s
  | .res3AtHl => Sys2Proof.Machine.execRes3AtHl s
  | .res4AtHl => Sys2Proof.Machine.execRes4AtHl s
  | .res5AtHl => Sys2Proof.Machine.execRes5AtHl s
  | .res6AtHl => Sys2Proof.Machine.execRes6AtHl s
  | .res7AtHl => Sys2Proof.Machine.execRes7AtHl s
  -- R135: SET b,r
  | .set0B => Sys2Proof.Machine.execSet0B s
  | .set0C => Sys2Proof.Machine.execSet0C s
  | .set0D => Sys2Proof.Machine.execSet0D s
  | .set0E => Sys2Proof.Machine.execSet0E s
  | .set0H => Sys2Proof.Machine.execSet0H s
  | .set0L => Sys2Proof.Machine.execSet0L s
  | .set0A => Sys2Proof.Machine.execSet0A s
  | .set1B => Sys2Proof.Machine.execSet1B s
  | .set1C => Sys2Proof.Machine.execSet1C s
  | .set1D => Sys2Proof.Machine.execSet1D s
  | .set1E => Sys2Proof.Machine.execSet1E s
  | .set1H => Sys2Proof.Machine.execSet1H s
  | .set1L => Sys2Proof.Machine.execSet1L s
  | .set1A => Sys2Proof.Machine.execSet1A s
  | .set2B => Sys2Proof.Machine.execSet2B s
  | .set2C => Sys2Proof.Machine.execSet2C s
  | .set2D => Sys2Proof.Machine.execSet2D s
  | .set2E => Sys2Proof.Machine.execSet2E s
  | .set2H => Sys2Proof.Machine.execSet2H s
  | .set2L => Sys2Proof.Machine.execSet2L s
  | .set2A => Sys2Proof.Machine.execSet2A s
  | .set3B => Sys2Proof.Machine.execSet3B s
  | .set3C => Sys2Proof.Machine.execSet3C s
  | .set3D => Sys2Proof.Machine.execSet3D s
  | .set3E => Sys2Proof.Machine.execSet3E s
  | .set3H => Sys2Proof.Machine.execSet3H s
  | .set3L => Sys2Proof.Machine.execSet3L s
  | .set3A => Sys2Proof.Machine.execSet3A s
  | .set4B => Sys2Proof.Machine.execSet4B s
  | .set4C => Sys2Proof.Machine.execSet4C s
  | .set4D => Sys2Proof.Machine.execSet4D s
  | .set4E => Sys2Proof.Machine.execSet4E s
  | .set4H => Sys2Proof.Machine.execSet4H s
  | .set4L => Sys2Proof.Machine.execSet4L s
  | .set4A => Sys2Proof.Machine.execSet4A s
  | .set5B => Sys2Proof.Machine.execSet5B s
  | .set5C => Sys2Proof.Machine.execSet5C s
  | .set5D => Sys2Proof.Machine.execSet5D s
  | .set5E => Sys2Proof.Machine.execSet5E s
  | .set5H => Sys2Proof.Machine.execSet5H s
  | .set5L => Sys2Proof.Machine.execSet5L s
  | .set5A => Sys2Proof.Machine.execSet5A s
  | .set6B => Sys2Proof.Machine.execSet6B s
  | .set6C => Sys2Proof.Machine.execSet6C s
  | .set6D => Sys2Proof.Machine.execSet6D s
  | .set6E => Sys2Proof.Machine.execSet6E s
  | .set6H => Sys2Proof.Machine.execSet6H s
  | .set6L => Sys2Proof.Machine.execSet6L s
  | .set6A => Sys2Proof.Machine.execSet6A s
  | .set7B => Sys2Proof.Machine.execSet7B s
  | .set7C => Sys2Proof.Machine.execSet7C s
  | .set7D => Sys2Proof.Machine.execSet7D s
  | .set7E => Sys2Proof.Machine.execSet7E s
  | .set7H => Sys2Proof.Machine.execSet7H s
  | .set7L => Sys2Proof.Machine.execSet7L s
  | .set7A => Sys2Proof.Machine.execSet7A s
  -- R136: SET b,(HL)
  | .set0AtHl => Sys2Proof.Machine.execSet0AtHl s
  | .set1AtHl => Sys2Proof.Machine.execSet1AtHl s
  | .set2AtHl => Sys2Proof.Machine.execSet2AtHl s
  | .set3AtHl => Sys2Proof.Machine.execSet3AtHl s
  | .set4AtHl => Sys2Proof.Machine.execSet4AtHl s
  | .set5AtHl => Sys2Proof.Machine.execSet5AtHl s
  | .set6AtHl => Sys2Proof.Machine.execSet6AtHl s
  | .set7AtHl => Sys2Proof.Machine.execSet7AtHl s
  -- R141: LD r,r'
  | .ldBB => Sys2Proof.Machine.execLdBB s
  | .ldBC => Sys2Proof.Machine.execLdBC s
  | .ldBD => Sys2Proof.Machine.execLdBD s
  | .ldBE => Sys2Proof.Machine.execLdBE s
  | .ldBH => Sys2Proof.Machine.execLdBH s
  | .ldBL => Sys2Proof.Machine.execLdBL s
  | .ldBA => Sys2Proof.Machine.execLdBA s
  | .ldCB => Sys2Proof.Machine.execLdCB s
  | .ldCC => Sys2Proof.Machine.execLdCC s
  | .ldCD => Sys2Proof.Machine.execLdCD s
  | .ldCE => Sys2Proof.Machine.execLdCE s
  | .ldCH => Sys2Proof.Machine.execLdCH s
  | .ldCL => Sys2Proof.Machine.execLdCL s
  | .ldCA => Sys2Proof.Machine.execLdCA s
  | .ldDB => Sys2Proof.Machine.execLdDB s
  | .ldDC => Sys2Proof.Machine.execLdDC s
  | .ldDD => Sys2Proof.Machine.execLdDD s
  | .ldDE => Sys2Proof.Machine.execLdDE s
  | .ldDH => Sys2Proof.Machine.execLdDH s
  | .ldDL => Sys2Proof.Machine.execLdDL s
  | .ldDA => Sys2Proof.Machine.execLdDA s
  | .ldEB => Sys2Proof.Machine.execLdEB s
  | .ldEC => Sys2Proof.Machine.execLdEC s
  | .ldED => Sys2Proof.Machine.execLdED s
  | .ldEE => Sys2Proof.Machine.execLdEE s
  | .ldEH => Sys2Proof.Machine.execLdEH s
  | .ldEL => Sys2Proof.Machine.execLdEL s
  | .ldEA => Sys2Proof.Machine.execLdEA s
  | .ldHB => Sys2Proof.Machine.execLdHB s
  | .ldHC => Sys2Proof.Machine.execLdHC s
  | .ldHD => Sys2Proof.Machine.execLdHD s
  | .ldHE => Sys2Proof.Machine.execLdHE s
  | .ldHH => Sys2Proof.Machine.execLdHH s
  | .ldHL => Sys2Proof.Machine.execLdHL s
  | .ldHA => Sys2Proof.Machine.execLdHA s
  | .ldLB => Sys2Proof.Machine.execLdLB s
  | .ldLC => Sys2Proof.Machine.execLdLC s
  | .ldLD => Sys2Proof.Machine.execLdLD s
  | .ldLE => Sys2Proof.Machine.execLdLE s
  | .ldLH => Sys2Proof.Machine.execLdLH s
  | .ldLL => Sys2Proof.Machine.execLdLL s
  | .ldLA => Sys2Proof.Machine.execLdLA s
  | .ldAB => Sys2Proof.Machine.execLdAB s
  | .ldAC => Sys2Proof.Machine.execLdAC s
  | .ldAD => Sys2Proof.Machine.execLdAD s
  | .ldAE => Sys2Proof.Machine.execLdAE s
  | .ldAH => Sys2Proof.Machine.execLdAH s
  | .ldAL => Sys2Proof.Machine.execLdAL s
  | .ldAA => Sys2Proof.Machine.execLdAA s
  -- R142: LD r,n8
  | .ldBN8 n => Sys2Proof.Machine.execLdBN8 n s
  | .ldCN8 n => Sys2Proof.Machine.execLdCN8 n s
  | .ldDN8 n => Sys2Proof.Machine.execLdDN8 n s
  | .ldEN8 n => Sys2Proof.Machine.execLdEN8 n s
  | .ldHN8 n => Sys2Proof.Machine.execLdHN8 n s
  | .ldLN8 n => Sys2Proof.Machine.execLdLN8 n s
  | .ldAN8 n => Sys2Proof.Machine.execLdAN8 n s
  -- R143: LD r,(HL)
  | .ldBAtHl => Sys2Proof.Machine.execLdBAtHl s
  | .ldCAtHl => Sys2Proof.Machine.execLdCAtHl s
  | .ldDAtHl => Sys2Proof.Machine.execLdDAtHl s
  | .ldEAtHl => Sys2Proof.Machine.execLdEAtHl s
  | .ldHAtHl => Sys2Proof.Machine.execLdHAtHl s
  | .ldLAtHl => Sys2Proof.Machine.execLdLAtHl s
  | .ldAAtHl => Sys2Proof.Machine.execLdAAtHl s
  -- R144: LD (HL),r
  | .ldAtHlB => Sys2Proof.Machine.execLdAtHlB s
  | .ldAtHlC => Sys2Proof.Machine.execLdAtHlC s
  | .ldAtHlD => Sys2Proof.Machine.execLdAtHlD s
  | .ldAtHlE => Sys2Proof.Machine.execLdAtHlE s
  | .ldAtHlH => Sys2Proof.Machine.execLdAtHlH s
  | .ldAtHlL => Sys2Proof.Machine.execLdAtHlL s
  | .ldAtHlA => Sys2Proof.Machine.execLdAtHlA s
  -- R145: LD (HL),n8
  | .ldAtHlN8 n => Sys2Proof.Machine.execLdAtHlN8 n s
  -- R146: LD A,(BC)
  | .ldAAtBc => Sys2Proof.Machine.execLdAAtBc s
  -- R147: LD A,(DE)
  | .ldAAtDe => Sys2Proof.Machine.execLdAAtDe s
  -- R148: LD (BC),A
  | .ldAtBcA => Sys2Proof.Machine.execLdAtBcA s
  -- R149: LD (DE),A
  | .ldAtDeA => Sys2Proof.Machine.execLdAtDeA s
  -- R150: LD A,(a16)
  | .ldAAtA16 a => Sys2Proof.Machine.execLdAAtA16 a s
  -- R151: LD (a16),A
  | .ldAtA16A a => Sys2Proof.Machine.execLdAtA16A a s
  -- R152: LDH A,(C)
  | .ldhAAtC => Sys2Proof.Machine.execLdhAAtC s
  -- R153: LDH (C),A
  | .ldhAtCA => Sys2Proof.Machine.execLdhAtCA s
  -- R154: LDH A,(a8)
  | .ldhAAtA8 o => Sys2Proof.Machine.execLdhAAtA8 o s
  -- R155: LDH (a8),A
  | .ldhAtA8A o => Sys2Proof.Machine.execLdhAtA8A o s
  -- R156: LD A,(HL-)
  | .ldAAtHld => Sys2Proof.Machine.execLdAAtHld s
  -- R157: LD (HL-),A
  | .ldAtHldA => Sys2Proof.Machine.execLdAtHldA s
  -- R158: LD A,(HL+)
  | .ldAAtHli => Sys2Proof.Machine.execLdAAtHli s
  -- R159: LD (HL+),A
  | .ldAtHliA => Sys2Proof.Machine.execLdAtHliA s
  -- R162: LD rr,n16
  | .ldBcN16 n => Sys2Proof.Machine.execLdBcN16 n s
  | .ldDeN16 n => Sys2Proof.Machine.execLdDeN16 n s
  | .ldHlN16 n => Sys2Proof.Machine.execLdHlN16 n s
  | .ldSpN16 n => Sys2Proof.Machine.execLdSpN16 n s
  -- R163: LD (a16),SP
  | .ldAtA16Sp a => Sys2Proof.Machine.execLdAtA16Sp a s
  -- R164: LD SP,HL
  | .ldSpHl => Sys2Proof.Machine.execLdSpHl s
  -- R165: LD HL,SP+e8
  | .ldHlSpE8 e => Sys2Proof.Machine.execLdHlSpE8 e s
  -- R166: PUSH rr
  | .pushBc => Sys2Proof.Machine.execPushBc s
  | .pushDe => Sys2Proof.Machine.execPushDe s
  | .pushHl => Sys2Proof.Machine.execPushHl s
  | .pushAf => Sys2Proof.Machine.execPushAf s
  -- R167: POP rr
  | .popBc => Sys2Proof.Machine.execPopBc s
  | .popDe => Sys2Proof.Machine.execPopDe s
  | .popHl => Sys2Proof.Machine.execPopHl s
  | .popAf => Sys2Proof.Machine.execPopAf s
  -- R168: JP a16
  | .jpA16 a => Sys2Proof.Machine.execJpA16 a s
  -- R169: JP cc,a16
  | .jpNzA16 a => Sys2Proof.Machine.execJpNzA16 a s
  | .jpZA16 a => Sys2Proof.Machine.execJpZA16 a s
  | .jpNcA16 a => Sys2Proof.Machine.execJpNcA16 a s
  | .jpCA16 a => Sys2Proof.Machine.execJpCA16 a s
  -- R170: JP HL
  | .jpHl => Sys2Proof.Machine.execJpHl s
  -- R171: JR e8
  | .jrE8 e => Sys2Proof.Machine.execJrE8 e s
  -- R172: JR cc,e8
  | .jrNzE8 e => Sys2Proof.Machine.execJrNzE8 e s
  | .jrZE8 e => Sys2Proof.Machine.execJrZE8 e s
  | .jrNcE8 e => Sys2Proof.Machine.execJrNcE8 e s
  | .jrCE8 e => Sys2Proof.Machine.execJrCE8 e s
  -- R173: CALL a16
  | .callA16 a => Sys2Proof.Machine.execCallA16 a s
  -- R174: CALL cc,a16
  | .callNzA16 a => Sys2Proof.Machine.execCallNzA16 a s
  | .callZA16 a => Sys2Proof.Machine.execCallZA16 a s
  | .callNcA16 a => Sys2Proof.Machine.execCallNcA16 a s
  | .callCA16 a => Sys2Proof.Machine.execCallCA16 a s
  -- R175: RET
  | .ret => Sys2Proof.Machine.execRet s
  -- R176: RET cc
  | .retNz => Sys2Proof.Machine.execRetNz s
  | .retZ => Sys2Proof.Machine.execRetZ s
  | .retNc => Sys2Proof.Machine.execRetNc s
  | .retC => Sys2Proof.Machine.execRetC s
  -- R177: RETI
  | .reti => Sys2Proof.Machine.execReti s
  -- R178: RST n
  | .rst00 => Sys2Proof.Machine.execRst00 s
  | .rst08 => Sys2Proof.Machine.execRst08 s
  | .rst10 => Sys2Proof.Machine.execRst10 s
  | .rst18 => Sys2Proof.Machine.execRst18 s
  | .rst20 => Sys2Proof.Machine.execRst20 s
  | .rst28 => Sys2Proof.Machine.execRst28 s
  | .rst30 => Sys2Proof.Machine.execRst30 s
  | .rst38 => Sys2Proof.Machine.execRst38 s
  -- R180: NOP
  | .nop => Sys2Proof.Machine.execNop s
  -- R181: HALT
  | .halt => Sys2Proof.Machine.execHalt s
  -- R182: STOP
  | .stop n => Sys2Proof.Machine.execStop n s
  -- R183: DI
  | .di => Sys2Proof.Machine.execDi s
  -- R184: EI
  | .ei => Sys2Proof.Machine.execEi s
  -- R185: PREFIX CB
  | .prefixCb k => Sys2Proof.Machine.execPrefixCb k s
  -- R186: ILLEGAL
  | .illegalD3 => Sys2Proof.Machine.execIllegalD3 s
  | .illegalDB => Sys2Proof.Machine.execIllegalDB s
  | .illegalDD => Sys2Proof.Machine.execIllegalDD s
  | .illegalE3 => Sys2Proof.Machine.execIllegalE3 s
  | .illegalE4 => Sys2Proof.Machine.execIllegalE4 s
  | .illegalEB => Sys2Proof.Machine.execIllegalEB s
  | .illegalEC => Sys2Proof.Machine.execIllegalEC s
  | .illegalED => Sys2Proof.Machine.execIllegalED s
  | .illegalF4 => Sys2Proof.Machine.execIllegalF4 s
  | .illegalFC => Sys2Proof.Machine.execIllegalFC s
  | .illegalFD => Sys2Proof.Machine.execIllegalFD s

end Sys2Proof.Machine
end

