-- ==== Sys2Proof/Machine/Engine.lean ====
section
/-! DEFINITION. The decode/execute engine: the fetch (R61, R62), the delayed effect of EI (R63), the check at the top of a step
(R60, R193, R194) and the low-power states (R198 to R200). -/

namespace Sys2Proof.Machine

/-! ### Fetch -/

/-- `skip`: how far the operands stand from PC; 0 when HALT's bug keeps the opcode byte from being stepped over
(R61). -/
def State.fetchSkip (s : State) : Word := if s.haltBug then 0#16 else 1#16

/-- The address of the k-th operand byte, k = 0, 1: ascending from PC + skip (R61). -/
def State.operandAddr (s : State) (k : Nat) : Word := s.pc + s.fetchSkip + BitVec.ofNat 16 k

/-- The operand bytes of an opcode, in ascending order; a byte the instruction does not have is given as 0 and not
read (R61). -/
def State.operandByte (s : State) (op : Byte) (k : Nat) : Byte :=
  if k + 1 < instrLength op then s.busRead (s.operandAddr k) else 0#8

/-- The reads of the operand bytes, each noted (R37, R61). -/
def State.logOperands (s : State) (op : Byte) : State :=
  if instrLength op = 1 then s
  else if instrLength op = 2 then s.logRead (s.operandAddr 0)
  else (s.logRead (s.operandAddr 0)).logRead (s.operandAddr 1)

/-- PC past the opcode and its operands: `PC + skip + len - 1` (R61, R62). -/
def State.pastInstruction (s : State) (op : Byte) : Word :=
  s.pc + s.fetchSkip + BitVec.ofNat 16 (instrLength op - 1)

/-- The instruction that stands at PC. -/
def State.fetched (s : State) : Instr :=
  let op := s.busRead s.pc
  decodeBytes op (s.operandByte op 0) (s.operandByte op 1)

/-- The state after the fetch of a legal opcode: its bytes were read, PC is past them, HALT's bug is spent (R61, R62). -/
def State.afterFetch (s : State) : State :=
  let op := s.busRead s.pc
  { (s.logRead s.pc).logOperands op with pc := s.pastInstruction op, haltBug := false }

/-- The delayed effect of EI: IME is set after a fetch and before the execution (R63). -/
def State.promoteEi (s : State) : State :=
  if s.eiPending then { s with ime := true, eiPending := false } else s

/-- Is the byte one of the eleven illegal opcodes (R56). -/
def isIllegal (op : Byte) : Bool := decide (op ∈ illegalOpcodes)

/-- The state in which the fetched instruction executes: fetched, EI's effect taken, the base cost charged (R60). -/
def State.readyToExecute (s : State) : State :=
  (s.afterFetch.promoteEi).charge (baseCycles s.config.cycles (s.busRead s.pc) (s.operandByte (s.busRead s.pc) 0))

/-- Fetch and Execute of R60, in a step that began in `mode` (R61). The fault of an illegal opcode is raised before anything
changes, so the faulted state has the mode the step began in and reports no cycles (R188, log entry 7). -/
def fetchExecute (mode : Mode) (s : State) : Result :=
  if isIllegal (s.busRead s.pc) then exec s.fetched { s.logRead s.pc with mode := mode, cycles := 0 }
  else exec s.fetched s.readyToExecute

/-! ### The top of a step -/

/-- Is the interrupt check made in this step: IME is 1 or the core is in a low-power state (R60, R194). -/
def State.polls (s : State) : Bool := s.ime || decide (s.mode ≠ .running)

/-- The state after the check's reads of IF and then IE (R60, D8). -/
def State.polled (s : State) : State := (s.logRead ifAddr).logRead ieAddr

/-- `pending`, of the bytes IF and IE hold (R193). -/
def State.pending (s : State) : Byte := pendingBits (s.busRead ifAddr) (s.busRead ieAddr)

/-- Does the core go on in this step: it is running, or halted with an interrupt pending (R199), or stopped with the
condition STOP_WAKE met (R200). -/
def State.awake (s : State) : Bool :=
  match s.mode with
  | .running => true
  | .halted => s.pending != 0#8
  | .stopped => stopWakes s.config.stopWake (s.busRead ifAddr) (s.busRead ieAddr)

/-- The wake from a low-power state: mode Running, and the cycles of the wake (R199, R200, R225). -/
def State.wake (s : State) : State :=
  match s.mode with
  | .running => s
  | .halted | .stopped => (s.setMode .running).charge wakeCycles

/-- One step after the fault check (R60): the interrupt check, an idle step, a wake, then either the taking of an
interrupt or the fetch and execution of an instruction. -/
def stepUnfaulted (s : State) : Result :=
  if s.polls then
    if s.awake then
      if s.ime && s.pending != 0#8 then .next (s.polled.wake.takeInterrupt (s.busRead ifAddr) s.pending)
      else fetchExecute s.mode s.polled.wake
    else .next (s.polled.charge idleCycles)
  else fetchExecute s.mode s

/-- One step (R60): a core that holds a fault makes no bus access, changes nothing and returns the same fault (R190). -/
def runStep (s : State) : Result :=
  match s.fault with
  | some info => .fault (.invalidOpcode info.opcode info.pc s.beginStep)
  | none => stepUnfaulted s.beginStep

/-! ### Placing an instruction -/

/-- The bytes written from an address up, as a loader behind the bus would. -/
def State.loadBytes (s : State) (addr : Word) : List Byte → State
  | [] => s
  | v :: rest => (s.deviceWrite addr v).loadBytes (addr + 1) rest

/-- The state in which the next step fetches at PC, whatever the state was: no fault, running, HALT's bug spent, and IME
cleared if an enabled interrupt would be taken first. -/
def State.clearForFetch (s : State) : State :=
  { s with fault := none, mode := .running, haltBug := false, ime := s.ime && s.pending == 0#8 }

end Sys2Proof.Machine
end

