-- ==== Sys2Proof/Machine/Step.lean ====
section
/-! DEFINITION. The machine's one step (R60) and the placing of an instruction where the next step fetches it. -/

namespace Sys2Proof.Machine

/-- One call of `step()` (R5, R60). -/
def step (s : State) : Host.Outcome State Fault Refusal := runStep s

/-- The state with the instruction of an opcode-table word stored at PC, where the next step fetches (R61). It stands for the
loading of a program from outside the machine (log entry 10). -/
def State.withFetchWord (s : State) (nbits w : Nat) : State :=
  (s.loadBytes s.pc (tableBytes nbits w)).clearForFetch

end Sys2Proof.Machine
end

