-- ==== Sys2Proof/Families.lean ====
section
/-! DEFINITION. The rows of one rule as ONE function of the operands its encoding selects (R48 to R53), so that a statement or a
lemma about a rule can speak of all its rows at once. Nothing in the machine's step reads this file. -/

namespace Sys2Proof

/-- `LD r,r'` (R141). -/
def ldRegReg (dst : R8) (src : R8) : Instr :=
  match dst, src with
  | .b, .b => .ldBB
  | .b, .c => .ldBC
  | .b, .d => .ldBD
  | .b, .e => .ldBE
  | .b, .h => .ldBH
  | .b, .l => .ldBL
  | .b, .a => .ldBA
  | .c, .b => .ldCB
  | .c, .c => .ldCC
  | .c, .d => .ldCD
  | .c, .e => .ldCE
  | .c, .h => .ldCH
  | .c, .l => .ldCL
  | .c, .a => .ldCA
  | .d, .b => .ldDB
  | .d, .c => .ldDC
  | .d, .d => .ldDD
  | .d, .e => .ldDE
  | .d, .h => .ldDH
  | .d, .l => .ldDL
  | .d, .a => .ldDA
  | .e, .b => .ldEB
  | .e, .c => .ldEC
  | .e, .d => .ldED
  | .e, .e => .ldEE
  | .e, .h => .ldEH
  | .e, .l => .ldEL
  | .e, .a => .ldEA
  | .h, .b => .ldHB
  | .h, .c => .ldHC
  | .h, .d => .ldHD
  | .h, .e => .ldHE
  | .h, .h => .ldHH
  | .h, .l => .ldHL
  | .h, .a => .ldHA
  | .l, .b => .ldLB
  | .l, .c => .ldLC
  | .l, .d => .ldLD
  | .l, .e => .ldLE
  | .l, .h => .ldLH
  | .l, .l => .ldLL
  | .l, .a => .ldLA
  | .a, .b => .ldAB
  | .a, .c => .ldAC
  | .a, .d => .ldAD
  | .a, .e => .ldAE
  | .a, .h => .ldAH
  | .a, .l => .ldAL
  | .a, .a => .ldAA

/-- `LD r,n8` (R142). -/
def ldRegImm (dst : R8) (n : Byte) : Instr :=
  match dst with
  | .b => .ldBN8 n
  | .c => .ldCN8 n
  | .d => .ldDN8 n
  | .e => .ldEN8 n
  | .h => .ldHN8 n
  | .l => .ldLN8 n
  | .a => .ldAN8 n

/-- `LD r,(HL)` (R143). -/
def ldRegAtHl (dst : R8) : Instr :=
  match dst with
  | .b => .ldBAtHl
  | .c => .ldCAtHl
  | .d => .ldDAtHl
  | .e => .ldEAtHl
  | .h => .ldHAtHl
  | .l => .ldLAtHl
  | .a => .ldAAtHl

/-- `LD (HL),r` (R144). -/
def ldAtHlReg (src : R8) : Instr :=
  match src with
  | .b => .ldAtHlB
  | .c => .ldAtHlC
  | .d => .ldAtHlD
  | .e => .ldAtHlE
  | .h => .ldAtHlH
  | .l => .ldAtHlL
  | .a => .ldAtHlA

/-- The accumulator operations on a register (R70, R73, R76, R79, R82, R85, R88, R91). -/
def aluReg (op : AluOp) (r : R8) : Instr :=
  match op, r with
  | .add, .b => .addAB
  | .add, .c => .addAC
  | .add, .d => .addAD
  | .add, .e => .addAE
  | .add, .h => .addAH
  | .add, .l => .addAL
  | .add, .a => .addAA
  | .adc, .b => .adcAB
  | .adc, .c => .adcAC
  | .adc, .d => .adcAD
  | .adc, .e => .adcAE
  | .adc, .h => .adcAH
  | .adc, .l => .adcAL
  | .adc, .a => .adcAA
  | .sub, .b => .subB
  | .sub, .c => .subC
  | .sub, .d => .subD
  | .sub, .e => .subE
  | .sub, .h => .subH
  | .sub, .l => .subL
  | .sub, .a => .subA
  | .sbc, .b => .sbcAB
  | .sbc, .c => .sbcAC
  | .sbc, .d => .sbcAD
  | .sbc, .e => .sbcAE
  | .sbc, .h => .sbcAH
  | .sbc, .l => .sbcAL
  | .sbc, .a => .sbcAA
  | .and, .b => .andB
  | .and, .c => .andC
  | .and, .d => .andD
  | .and, .e => .andE
  | .and, .h => .andH
  | .and, .l => .andL
  | .and, .a => .andA
  | .xor, .b => .xorB
  | .xor, .c => .xorC
  | .xor, .d => .xorD
  | .xor, .e => .xorE
  | .xor, .h => .xorH
  | .xor, .l => .xorL
  | .xor, .a => .xorA
  | .or, .b => .orB
  | .or, .c => .orC
  | .or, .d => .orD
  | .or, .e => .orE
  | .or, .h => .orH
  | .or, .l => .orL
  | .or, .a => .orA
  | .cp, .b => .cpB
  | .cp, .c => .cpC
  | .cp, .d => .cpD
  | .cp, .e => .cpE
  | .cp, .h => .cpH
  | .cp, .l => .cpL
  | .cp, .a => .cpA

/-- The accumulator operations on the byte at HL (R71, R74, R77, R80, R83, R86, R89, R92). -/
def aluAtHl (op : AluOp) : Instr :=
  match op with
  | .add => .addAAtHl
  | .adc => .adcAAtHl
  | .sub => .subAtHl
  | .sbc => .sbcAAtHl
  | .and => .andAtHl
  | .xor => .xorAtHl
  | .or => .orAtHl
  | .cp => .cpAtHl

/-- The accumulator operations on an immediate (R72, R75, R78, R81, R84, R87, R90, R93). -/
def aluImm (op : AluOp) (n : Byte) : Instr :=
  match op with
  | .add => .addAN8 n
  | .adc => .adcAN8 n
  | .sub => .subN8 n
  | .sbc => .sbcAN8 n
  | .and => .andN8 n
  | .xor => .xorN8 n
  | .or => .orN8 n
  | .cp => .cpN8 n

/-- `INC r` (R94). -/
def incReg (r : R8) : Instr :=
  match r with
  | .b => .incB
  | .c => .incC
  | .d => .incD
  | .e => .incE
  | .h => .incH
  | .l => .incL
  | .a => .incA

/-- `DEC r` (R96). -/
def decReg (r : R8) : Instr :=
  match r with
  | .b => .decB
  | .c => .decC
  | .d => .decD
  | .e => .decE
  | .h => .decH
  | .l => .decL
  | .a => .decA

/-- `ADD HL,rr` (R105). -/
def addHlPair (p : Pair) : Instr :=
  match p with
  | .bc => .addHlBc
  | .de => .addHlDe
  | .hl => .addHlHl
  | .sp => .addHlSp

/-- `INC rr` (R106). -/
def incPair (p : Pair) : Instr :=
  match p with
  | .bc => .incBc
  | .de => .incDe
  | .hl => .incHl
  | .sp => .incSp

/-- `DEC rr` (R107). -/
def decPair (p : Pair) : Instr :=
  match p with
  | .bc => .decBc
  | .de => .decDe
  | .hl => .decHl
  | .sp => .decSp

/-- `LD rr,n16` (R162). -/
def ldPairImm (p : Pair) (n : Word) : Instr :=
  match p with
  | .bc => .ldBcN16 n
  | .de => .ldDeN16 n
  | .hl => .ldHlN16 n
  | .sp => .ldSpN16 n

/-- `PUSH rr` (R166). -/
def pushPair (p : StackPair) : Instr :=
  match p with
  | .bc => .pushBc
  | .de => .pushDe
  | .hl => .pushHl
  | .af => .pushAf

/-- `POP rr` (R167). -/
def popPair (p : StackPair) : Instr :=
  match p with
  | .bc => .popBc
  | .de => .popDe
  | .hl => .popHl
  | .af => .popAf

/-- The CB rotates and shifts of a register (R115 to R129, the odd rules). -/
def shiftRegInstr (op : ShiftOp) (r : R8) : Instr :=
  match op, r with
  | .rlc, .b => .rlcB
  | .rlc, .c => .rlcC
  | .rlc, .d => .rlcD
  | .rlc, .e => .rlcE
  | .rlc, .h => .rlcH
  | .rlc, .l => .rlcL
  | .rlc, .a => .rlcA
  | .rrc, .b => .rrcB
  | .rrc, .c => .rrcC
  | .rrc, .d => .rrcD
  | .rrc, .e => .rrcE
  | .rrc, .h => .rrcH
  | .rrc, .l => .rrcL
  | .rrc, .a => .rrcA
  | .rl, .b => .rlB
  | .rl, .c => .rlC
  | .rl, .d => .rlD
  | .rl, .e => .rlE
  | .rl, .h => .rlH
  | .rl, .l => .rlL
  | .rl, .a => .rlA
  | .rr, .b => .rrB
  | .rr, .c => .rrC
  | .rr, .d => .rrD
  | .rr, .e => .rrE
  | .rr, .h => .rrH
  | .rr, .l => .rrL
  | .rr, .a => .rrA
  | .sla, .b => .slaB
  | .sla, .c => .slaC
  | .sla, .d => .slaD
  | .sla, .e => .slaE
  | .sla, .h => .slaH
  | .sla, .l => .slaL
  | .sla, .a => .slaA
  | .sra, .b => .sraB
  | .sra, .c => .sraC
  | .sra, .d => .sraD
  | .sra, .e => .sraE
  | .sra, .h => .sraH
  | .sra, .l => .sraL
  | .sra, .a => .sraA
  | .swap, .b => .swapB
  | .swap, .c => .swapC
  | .swap, .d => .swapD
  | .swap, .e => .swapE
  | .swap, .h => .swapH
  | .swap, .l => .swapL
  | .swap, .a => .swapA
  | .srl, .b => .srlB
  | .srl, .c => .srlC
  | .srl, .d => .srlD
  | .srl, .e => .srlE
  | .srl, .h => .srlH
  | .srl, .l => .srlL
  | .srl, .a => .srlA

/-- The CB rotates and shifts of the byte at HL (R116 to R130, the even rules). -/
def shiftAtHlInstr (op : ShiftOp) : Instr :=
  match op with
  | .rlc => .rlcAtHl
  | .rrc => .rrcAtHl
  | .rl => .rlAtHl
  | .rr => .rrAtHl
  | .sla => .slaAtHl
  | .sra => .sraAtHl
  | .swap => .swapAtHl
  | .srl => .srlAtHl

/-- `BIT b,r` (R131). -/
def bitRegInstr (k : BitNumber) (r : R8) : Instr :=
  match k, r with
  | .b0, .b => .bit0B
  | .b0, .c => .bit0C
  | .b0, .d => .bit0D
  | .b0, .e => .bit0E
  | .b0, .h => .bit0H
  | .b0, .l => .bit0L
  | .b0, .a => .bit0A
  | .b1, .b => .bit1B
  | .b1, .c => .bit1C
  | .b1, .d => .bit1D
  | .b1, .e => .bit1E
  | .b1, .h => .bit1H
  | .b1, .l => .bit1L
  | .b1, .a => .bit1A
  | .b2, .b => .bit2B
  | .b2, .c => .bit2C
  | .b2, .d => .bit2D
  | .b2, .e => .bit2E
  | .b2, .h => .bit2H
  | .b2, .l => .bit2L
  | .b2, .a => .bit2A
  | .b3, .b => .bit3B
  | .b3, .c => .bit3C
  | .b3, .d => .bit3D
  | .b3, .e => .bit3E
  | .b3, .h => .bit3H
  | .b3, .l => .bit3L
  | .b3, .a => .bit3A
  | .b4, .b => .bit4B
  | .b4, .c => .bit4C
  | .b4, .d => .bit4D
  | .b4, .e => .bit4E
  | .b4, .h => .bit4H
  | .b4, .l => .bit4L
  | .b4, .a => .bit4A
  | .b5, .b => .bit5B
  | .b5, .c => .bit5C
  | .b5, .d => .bit5D
  | .b5, .e => .bit5E
  | .b5, .h => .bit5H
  | .b5, .l => .bit5L
  | .b5, .a => .bit5A
  | .b6, .b => .bit6B
  | .b6, .c => .bit6C
  | .b6, .d => .bit6D
  | .b6, .e => .bit6E
  | .b6, .h => .bit6H
  | .b6, .l => .bit6L
  | .b6, .a => .bit6A
  | .b7, .b => .bit7B
  | .b7, .c => .bit7C
  | .b7, .d => .bit7D
  | .b7, .e => .bit7E
  | .b7, .h => .bit7H
  | .b7, .l => .bit7L
  | .b7, .a => .bit7A

/-- `BIT b,(HL)` (R132). -/
def bitAtHlInstr (k : BitNumber) : Instr :=
  match k with
  | .b0 => .bit0AtHl
  | .b1 => .bit1AtHl
  | .b2 => .bit2AtHl
  | .b3 => .bit3AtHl
  | .b4 => .bit4AtHl
  | .b5 => .bit5AtHl
  | .b6 => .bit6AtHl
  | .b7 => .bit7AtHl

/-- `RES b,r` (R133). -/
def resRegInstr (k : BitNumber) (r : R8) : Instr :=
  match k, r with
  | .b0, .b => .res0B
  | .b0, .c => .res0C
  | .b0, .d => .res0D
  | .b0, .e => .res0E
  | .b0, .h => .res0H
  | .b0, .l => .res0L
  | .b0, .a => .res0A
  | .b1, .b => .res1B
  | .b1, .c => .res1C
  | .b1, .d => .res1D
  | .b1, .e => .res1E
  | .b1, .h => .res1H
  | .b1, .l => .res1L
  | .b1, .a => .res1A
  | .b2, .b => .res2B
  | .b2, .c => .res2C
  | .b2, .d => .res2D
  | .b2, .e => .res2E
  | .b2, .h => .res2H
  | .b2, .l => .res2L
  | .b2, .a => .res2A
  | .b3, .b => .res3B
  | .b3, .c => .res3C
  | .b3, .d => .res3D
  | .b3, .e => .res3E
  | .b3, .h => .res3H
  | .b3, .l => .res3L
  | .b3, .a => .res3A
  | .b4, .b => .res4B
  | .b4, .c => .res4C
  | .b4, .d => .res4D
  | .b4, .e => .res4E
  | .b4, .h => .res4H
  | .b4, .l => .res4L
  | .b4, .a => .res4A
  | .b5, .b => .res5B
  | .b5, .c => .res5C
  | .b5, .d => .res5D
  | .b5, .e => .res5E
  | .b5, .h => .res5H
  | .b5, .l => .res5L
  | .b5, .a => .res5A
  | .b6, .b => .res6B
  | .b6, .c => .res6C
  | .b6, .d => .res6D
  | .b6, .e => .res6E
  | .b6, .h => .res6H
  | .b6, .l => .res6L
  | .b6, .a => .res6A
  | .b7, .b => .res7B
  | .b7, .c => .res7C
  | .b7, .d => .res7D
  | .b7, .e => .res7E
  | .b7, .h => .res7H
  | .b7, .l => .res7L
  | .b7, .a => .res7A

/-- `RES b,(HL)` (R134). -/
def resAtHlInstr (k : BitNumber) : Instr :=
  match k with
  | .b0 => .res0AtHl
  | .b1 => .res1AtHl
  | .b2 => .res2AtHl
  | .b3 => .res3AtHl
  | .b4 => .res4AtHl
  | .b5 => .res5AtHl
  | .b6 => .res6AtHl
  | .b7 => .res7AtHl

/-- `SET b,r` (R135). -/
def setRegInstr (k : BitNumber) (r : R8) : Instr :=
  match k, r with
  | .b0, .b => .set0B
  | .b0, .c => .set0C
  | .b0, .d => .set0D
  | .b0, .e => .set0E
  | .b0, .h => .set0H
  | .b0, .l => .set0L
  | .b0, .a => .set0A
  | .b1, .b => .set1B
  | .b1, .c => .set1C
  | .b1, .d => .set1D
  | .b1, .e => .set1E
  | .b1, .h => .set1H
  | .b1, .l => .set1L
  | .b1, .a => .set1A
  | .b2, .b => .set2B
  | .b2, .c => .set2C
  | .b2, .d => .set2D
  | .b2, .e => .set2E
  | .b2, .h => .set2H
  | .b2, .l => .set2L
  | .b2, .a => .set2A
  | .b3, .b => .set3B
  | .b3, .c => .set3C
  | .b3, .d => .set3D
  | .b3, .e => .set3E
  | .b3, .h => .set3H
  | .b3, .l => .set3L
  | .b3, .a => .set3A
  | .b4, .b => .set4B
  | .b4, .c => .set4C
  | .b4, .d => .set4D
  | .b4, .e => .set4E
  | .b4, .h => .set4H
  | .b4, .l => .set4L
  | .b4, .a => .set4A
  | .b5, .b => .set5B
  | .b5, .c => .set5C
  | .b5, .d => .set5D
  | .b5, .e => .set5E
  | .b5, .h => .set5H
  | .b5, .l => .set5L
  | .b5, .a => .set5A
  | .b6, .b => .set6B
  | .b6, .c => .set6C
  | .b6, .d => .set6D
  | .b6, .e => .set6E
  | .b6, .h => .set6H
  | .b6, .l => .set6L
  | .b6, .a => .set6A
  | .b7, .b => .set7B
  | .b7, .c => .set7C
  | .b7, .d => .set7D
  | .b7, .e => .set7E
  | .b7, .h => .set7H
  | .b7, .l => .set7L
  | .b7, .a => .set7A

/-- `SET b,(HL)` (R136). -/
def setAtHlInstr (k : BitNumber) : Instr :=
  match k with
  | .b0 => .set0AtHl
  | .b1 => .set1AtHl
  | .b2 => .set2AtHl
  | .b3 => .set3AtHl
  | .b4 => .set4AtHl
  | .b5 => .set5AtHl
  | .b6 => .set6AtHl
  | .b7 => .set7AtHl

/-- `JR cc,e8` (R172). -/
def jrCond (cc : Cond) (e : Byte) : Instr :=
  match cc with
  | .nz => .jrNzE8 e
  | .z => .jrZE8 e
  | .nc => .jrNcE8 e
  | .c => .jrCE8 e

/-- `JP cc,a16` (R169). -/
def jpCond (cc : Cond) (a : Word) : Instr :=
  match cc with
  | .nz => .jpNzA16 a
  | .z => .jpZA16 a
  | .nc => .jpNcA16 a
  | .c => .jpCA16 a

/-- `CALL cc,a16` (R174). -/
def callCond (cc : Cond) (a : Word) : Instr :=
  match cc with
  | .nz => .callNzA16 a
  | .z => .callZA16 a
  | .nc => .callNcA16 a
  | .c => .callCA16 a

/-- `RET cc` (R176). -/
def retCond (cc : Cond) : Instr :=
  match cc with
  | .nz => .retNz
  | .z => .retZ
  | .nc => .retNc
  | .c => .retC

/-- `RST n` (R178). -/
def rstInstr (t : RstTarget) : Instr :=
  match t with
  | .t00 => .rst00
  | .t08 => .rst08
  | .t10 => .rst10
  | .t18 => .rst18
  | .t20 => .rst20
  | .t28 => .rst28
  | .t30 => .rst30
  | .t38 => .rst38

/-- The eleven illegal opcodes (R56, R186). -/
def illegalInstr (x : IllegalOp) : Instr :=
  match x with
  | .xD3 => .illegalD3
  | .xDB => .illegalDB
  | .xDD => .illegalDD
  | .xE3 => .illegalE3
  | .xE4 => .illegalE4
  | .xEB => .illegalEB
  | .xEC => .illegalEC
  | .xED => .illegalED
  | .xF4 => .illegalF4
  | .xFC => .illegalFC
  | .xFD => .illegalFD

/-- The three source forms of an accumulator operation (R70 to R93). -/
inductive AluSource where
  | reg (r : R8)
  | atHl
  | imm (n : Byte)
  deriving DecidableEq, Repr

/-- The accumulator operations on every source form (R70 to R93). -/
def aluInstr (op : AluOp) (src : AluSource) : Instr :=
  match src with
  | .reg r => aluReg op r
  | .atHl => aluAtHl op
  | .imm n => aluImm op n

/-- The byte of an illegal opcode (R56). -/
def illegalByte : IllegalOp → Byte
  | .xD3 => 0xD3#8
  | .xDB => 0xDB#8
  | .xDD => 0xDD#8
  | .xE3 => 0xE3#8
  | .xE4 => 0xE4#8
  | .xEB => 0xEB#8
  | .xEC => 0xEC#8
  | .xED => 0xED#8
  | .xF4 => 0xF4#8
  | .xFC => 0xFC#8
  | .xFD => 0xFD#8

end Sys2Proof
end

