-- ==== Sys2Proof/Safety.lean ====
section
/-! DEFINITION. What claims about runs are stated in: the invariant of the reachable states, and the outcomes of a step. -/

namespace Sys2Proof.Machine

/-- `F[3:0]` is 0 (R17). -/
abbrev State.lowNibbleClear (s : State) : Prop := s.f &&& 0x0F#8 = 0#8

/-- The hidden bits agree: HALT's bug is only ever pending while the core runs with IME=0 and no EI due and the parameter
HALT_BUG says so (R22, R181), a low-power state has no EI due (R63, R181, R182), and the spec's fault is one of the eleven
opcodes at PC (R188). -/
structure State.HiddenAgree (s : State) : Prop where
  haltBug : s.haltBug = true → s.ime = false ∧ s.mode = .running ∧ s.eiPending = false ∧ s.config.haltBug = true
  lowPower : s.mode ≠ .running → s.eiPending = false
  fault : ∀ x, s.fault = some x → x.opcode ∈ illegalOpcodes ∧ x.pc = s.pc

/-- The invariant of the states a run reaches: the memory is in canonical form, the low nibble of F is 0, and the hidden bits
agree. -/
structure State.Inv (s : State) : Prop where
  mem : s.mem.wf = true
  flags : s.lowNibbleClear
  hidden : s.HiddenAgree

/-- A step that goes on. -/
abbrev Goes (s : State) : Prop := ∃ t, step s = .next t

end Sys2Proof.Machine
end

