-- ==== Sys2Proof/WellFormed.lean ====
section
/-! DEFINITION. The well-formed instructions. Every operand's type already holds exactly the values its encoding admits, so one
check is left: the row `PREFIX CB` with its secondary opcode is another name of the CB instruction of the same two bytes
(R57, R185), and the decoder gives that instruction (log entry 8). -/

namespace Sys2Proof

/-- Is this the instruction's own name: everything is but the row of the prefix. -/
def Instr.ownName : Instr → Bool
  | .prefixCb _ => false
  | _ => true

/-- The well-formed instructions: those the decoder gives. -/
abbrev WellFormed (i : Instr) : Prop := i.ownName = true

end Sys2Proof
end

