-- ==== Sys2Proof/Certificates/Slice0/Obligations.lean ====
section
/-! DEFINITION. The statements for the provers, from the numbered rules of spec/. A statement of what an instruction does has the
next state as its conclusion, and says of every field of the state, of the bus calls and of every byte of memory what
becomes of it. In exec, PC is already past the instruction (R62) and `cycles` already holds its base cost (R60). -/

namespace Sys2Proof.Claims

open Sys2Proof.Machine

/-- The value of a source operand: a register, the byte at HL or the immediate. -/
def value (s : State) : AluSource → Byte
  | .reg r => s.r8 r
  | .atHl => s.busRead s.hl
  | .imm n => n

/-- The bus calls of reading a source operand: one read for the byte at HL, none else. -/
def reads (s : State) : AluSource → List BusCall
  | .atHl => [.read s.hl (s.busRead s.hl)]
  | .reg _ | .imm _ => []

/-- `t` is `s` but for A, the flags of F and the bus calls given: the low nibble of F, every other register, memory and every
other field stay. -/
def OnlyAF (s t : State) (calls : List BusCall) : Prop :=
  t = { s with a := t.a, f := t.f, bus := s.bus ++ calls } ∧ t.f &&& 0x0F#8 = s.f &&& 0x0F#8

/-- `t` is `s` but for the flags of F: the low nibble of F and every other field stay. -/
def OnlyF (s t : State) : Prop := t = { s with f := t.f } ∧ t.f &&& 0x0F#8 = s.f &&& 0x0F#8

/-- `t` is `s` but for one 8-bit register, which holds `v`, and the flags of F. -/
def OnlyRegF (s t : State) (r : R8) (v : Byte) : Prop :=
  t = { s with a := t.a, b := t.b, c := t.c, d := t.d, e := t.e, h := t.h, l := t.l, f := t.f } ∧
  (∀ r', t.r8 r' = if r' = r then v else s.r8 r') ∧ t.f &&& 0x0F#8 = s.f &&& 0x0F#8

/-- `t` is `s` but for one 8-bit register, which holds `v`, and the bus calls given; F stays. -/
def OnlyReg (s t : State) (r : R8) (v : Byte) (calls : List BusCall) : Prop :=
  t = { s with a := t.a, b := t.b, c := t.c, d := t.d, e := t.e, h := t.h, l := t.l, bus := s.bus ++ calls } ∧
  (∀ r', t.r8 r' = if r' = r then v else s.r8 r')

/-- One byte was stored and every other address reads as before. -/
def StoredByte (s t : State) (addr : Word) (v : Byte) : Prop :=
  ∀ x, t.busRead x = if x = addr then v else s.busRead x

/-- Two bytes were stored, the low byte first: the high byte at the next address wins where the two are one, which they never
are, and every other address reads as before. -/
def StoredWord (s t : State) (addr : Word) (v : Word) : Prop :=
  ∀ x, t.busRead x = if x = addr + 1 then v.extractLsb' 8 8 else if x = addr then v.extractLsb' 0 8 else s.busRead x

/-- The bus calls of a store of a word: the low byte at the address, then the high byte at the next one. -/
def wordWrites (addr v : Word) : List BusCall :=
  [.write addr (v.extractLsb' 0 8), .write (addr + 1) (v.extractLsb' 8 8)]

/-- The word that stands at an address, low byte first. -/
def wordAt (s : State) (addr : Word) : Word := s.busRead (addr + 1) ++ s.busRead addr

/-- The bus calls of a load of a word: the byte at the address, then the byte at the next one. -/
def wordReads (s : State) (addr : Word) : List BusCall :=
  [.read addr (s.busRead addr), .read (addr + 1) (s.busRead (addr + 1))]

/-- A flag as the number 0 or 1. -/
def one (b : Bool) : Nat := if b then 1 else 0

/-- The table of R114 on numbers: the result of a shift of `v` with carry-in `cin`. -/
def shifted (op : ShiftOp) (v cin : Nat) : Nat :=
  match op with
  | .rlc => v * 2 % 256 + v / 128
  | .rrc => v / 2 + 128 * (v % 2)
  | .rl => v * 2 % 256 + cin
  | .rr => v / 2 + 128 * cin
  | .sla => v * 2 % 256
  | .sra => v / 2 + 128 * (v / 128)
  | .swap => v % 16 * 16 + v / 16
  | .srl => v / 2

/-- The table of R114: the carry out. -/
def shiftedOut (op : ShiftOp) (v : Byte) : Bool :=
  match op with
  | .rlc | .rl | .sla => v.getLsbD 7
  | .rrc | .rr | .sra | .srl => v.getLsbD 0
  | .swap => false

/-- `A <- MemRead(addr, 1)` and nothing else. -/
def LoadsA (i : Instr) (addr : State → Word) : Prop :=
  ∀ s, exec i s = .next { s with a := s.busRead (addr s), bus := s.bus ++ [.read (addr s) (s.busRead (addr s))] }

/-- `MemWrite(addr, 1, A)` and nothing else. -/
def StoresA (i : Instr) (addr : State → Word) : Prop :=
  ∀ s, ∃ t, exec i s = .next t ∧ t = { s with mem := t.mem, bus := s.bus ++ [.write (addr s) s.a] } ∧
    StoredByte s t (addr s) s.a

/-- The high-page address of an offset. -/
def page (offset : Byte) : Word := 0xFF#8 ++ offset

/-- The condition a code names, on the flags of F. -/
def holds (s : State) : Cond → Bool
  | .nz => !s.f.getLsbD 7
  | .z => s.f.getLsbD 7
  | .nc => !s.f.getLsbD 4
  | .c => s.f.getLsbD 4

/-- The encoding and the base cost of an instruction, as its own rule gives them: the decoder reads the instruction from the bytes, the
encoder gives them back, and the default cycle table charges the cycles (of a conditional form: with the condition false). -/
def Row (i : Instr) (bytes : List Byte) (cycles : Nat) : Prop :=
  decode bytes = .ok (i, []) ∧ encode i = bytes ∧ baseCycles .sm83 (bytes.getD 0 0) (bytes.getD 1 0) = cycles

/-- The rows of an accumulator operation: on a register, on the byte at HL, on an immediate. -/
def AluRows (op : AluOp) (first imm : Byte) : Prop :=
  (∀ r, Row (aluReg op r) [first + r8Code r] 4) ∧ Row (aluAtHl op) [first + 6] 8 ∧ ∀ n, Row (aluImm op n) [imm, n] 8

/-- The 3-bit code of a CB rotate or shift (R53). -/
def shiftCode : ShiftOp → Byte
  | .rlc => 0
  | .rrc => 1
  | .rl => 2
  | .rr => 3
  | .sla => 4
  | .sra => 5
  | .swap => 6
  | .srl => 7

/-- The 3-bit code of a bit number (R49). -/
def bitCode (k : BitNumber) : Byte := BitVec.ofNat 8 (bitIndex k)

/-- A two-digit decimal number as a BCD byte. -/
def bcd (n : Nat) : Byte := BitVec.ofNat 8 (n / 10 * 16 + n % 10)

/-- Nothing but the fetch stands between a step and the instruction at PC: no fault, the core goes on (it runs, or this step
wakes it), and no interrupt is taken. -/
abbrev Fetches (s : State) : Prop := s.fault = none ∧ s.awake = true ∧ (s.ime = true → s.pending = 0#8)

/-- The bus calls of the interrupt check: IF, then IE, exactly when IME is 1 or the core is in a low-power state. -/
def checkReads (s : State) : List BusCall :=
  if s.ime = true ∨ s.mode ≠ .running then
    [.read 0xFF0F#16 (s.busRead 0xFF0F#16), .read 0xFFFF#16 (s.busRead 0xFFFF#16)]
  else []

/-- What the check adds to the cycles of a step that goes on: 4 if it wakes the core. -/
def wakeCost (s : State) : Nat := if s.mode = .running then 0 else 4

end Sys2Proof.Claims

open Sys2Proof Sys2Proof.Machine Sys2Proof.Claims

/-! ### Encoding -/

/-- R46, R47, R55, R57: a few words, written out from the maps. -/
def Obligations.DecodesKnownWords : Prop :=
  decode [0x3E, 0x05] = .ok (.ldAN8 0x05, []) ∧ decode [0xC6, 0x03] = .ok (.addAN8 0x03, []) ∧
  decode [0xCB, 0x37] = .ok (.swapA, []) ∧ decode [0xCB, 0xCB] = .ok (.set1E, []) ∧
  decode [0x08, 0x00, 0xD0] = .ok (.ldAtA16Sp 0xD000#16, []) ∧ decode [0x76] = .ok (.halt, []) ∧
  decode [0x10, 0x00] = .ok (.stop 0x00, []) ∧ decode [0xD3] = .ok (.illegalD3, []) ∧
  decode [0xFA, 0x44] = .error (.missingOperand 0xFA)

/-- Every well-formed instruction is what the decoder reads from its own encoding, whatever bytes follow (R46 to R59; that the prefix
and its secondary opcode are one instruction is the spec's own decision D19). -/
def Obligations.DecodeOfEncode : Prop :=
  ∀ (i : Instr) (rest : List Byte), WellFormed i → decode (encode i ++ rest) = .ok (i, rest)

/-- Whatever the decoder reads is a well-formed instruction whose encoding is exactly the bytes it took: every byte value is
exactly one instruction (R58). -/
def Obligations.EncodeOfDecode : Prop :=
  ∀ (bytes rest : List Byte) (i : Instr), decode bytes = .ok (i, rest) → WellFormed i ∧ encode i ++ rest = bytes

/-- R56: exactly eleven byte values decode to an illegal instruction, whatever follows them, and it ends in the fault InvalidOpcode. That
the fault records the opcode is not R56's but R186's and R188's, by the spec's own decisions D15 and D26. -/
def Obligations.ElevenOpcodesAreIllegal : Prop :=
  (∀ op x y, (∃ k, decodeBytes op x y = illegalInstr k) ↔
    op ∈ [0xD3#8, 0xDB#8, 0xDD#8, 0xE3#8, 0xE4#8, 0xEB#8, 0xEC#8, 0xED#8, 0xF4#8, 0xFC#8, 0xFD#8]) ∧
  (∀ k x y, decodeBytes (illegalByte k) x y = illegalInstr k) ∧
  (∀ (k : IllegalOp) (s : State), ∃ pc t, exec (illegalInstr k) s = .fault (.invalidOpcode (illegalByte k) pc t))

/-- R186, R188 (the record and the unmoved PC by the spec's own decisions D15 and D26): an illegal instruction ends in the fault with the record of its
opcode and PC, in the state with only `fault` changed. -/
def Obligations.IllegalOpcodesChangeOnlyFault : Prop :=
  ∀ (k : IllegalOp) (s : State), exec (illegalInstr k) s =
    .fault (.invalidOpcode (illegalByte k) s.pc { s with fault := some { opcode := illegalByte k, pc := s.pc } })

/-! ### 8-bit arithmetic and logic -/

/-- R65, R70 to R75: ADD and ADC, on a register, the byte at HL and an immediate: their encodings, costs and effects. -/
def Obligations.AdditionsSetAAndFlags : Prop :=
  AluRows .add 0x80 0xC6 ∧ AluRows .adc 0x88 0xCE ∧
  ∀ (withCarry : Bool) (src : AluSource) (s : State), ∃ t,
    exec (aluInstr (if withCarry then .adc else .add) src) s = .next t ∧
    (let v := (value s src).toNat
     let cin := if withCarry then one (s.flag .c) else 0
     t.a.toNat = (s.a.toNat + v + cin) % 256 ∧ t.flag .z = decide (t.a = 0#8) ∧ t.flag .n = false ∧
     t.flag .h = decide (s.a.toNat % 16 + v % 16 + cin > 15) ∧ t.flag .c = decide (s.a.toNat + v + cin > 255)) ∧
    OnlyAF s t (reads s src)

/-- R66, R76 to R81: SUB and SBC, on a register, the byte at HL and an immediate: their encodings, costs and effects. -/
def Obligations.SubtractionsSetAAndFlags : Prop :=
  AluRows .sub 0x90 0xD6 ∧ AluRows .sbc 0x98 0xDE ∧
  ∀ (withCarry : Bool) (src : AluSource) (s : State), ∃ t,
    exec (aluInstr (if withCarry then .sbc else .sub) src) s = .next t ∧
    (let v := (value s src).toNat
     let cin := if withCarry then one (s.flag .c) else 0
     t.a.toNat = (s.a.toNat + 512 - v - cin) % 256 ∧ t.flag .z = decide (t.a = 0#8) ∧ t.flag .n = true ∧
     t.flag .h = decide (s.a.toNat % 16 < v % 16 + cin) ∧ t.flag .c = decide (s.a.toNat < v + cin)) ∧
    OnlyAF s t (reads s src)

/-- R91 to R93: CP writes the flags of the subtraction and not A. -/
def Obligations.CompareWritesOnlyFlags : Prop :=
  AluRows .cp 0xB8 0xFE ∧
  ∀ (src : AluSource) (s : State), ∃ t, exec (aluInstr .cp src) s = .next t ∧ t.a = s.a ∧
    t.flag .z = decide (s.a = value s src) ∧ t.flag .n = true ∧
    t.flag .h = decide (s.a.toNat % 16 < (value s src).toNat % 16) ∧ t.flag .c = decide (s.a.toNat < (value s src).toNat) ∧
    OnlyAF s t (reads s src)

/-- R67, R82 to R90: AND, XOR and OR, bit by bit, with their fixed N, H and C (by the spec's own decision D17). -/
def Obligations.LogicSetsAAndFlags : Prop :=
  AluRows .and 0xA0 0xE6 ∧ AluRows .xor 0xA8 0xEE ∧ AluRows .or 0xB0 0xF6 ∧
  ∀ (src : AluSource) (s : State),
    (∃ t, exec (aluInstr .and src) s = .next t ∧ (∀ i, t.a.getLsbD i = (s.a.getLsbD i && (value s src).getLsbD i)) ∧
      t.flag .z = decide (t.a = 0#8) ∧ t.flag .n = false ∧ t.flag .h = true ∧ t.flag .c = false ∧ OnlyAF s t (reads s src)) ∧
    (∃ t, exec (aluInstr .xor src) s = .next t ∧ (∀ i, t.a.getLsbD i = (s.a.getLsbD i ^^ (value s src).getLsbD i)) ∧
      t.flag .z = decide (t.a = 0#8) ∧ t.flag .n = false ∧ t.flag .h = false ∧ t.flag .c = false ∧ OnlyAF s t (reads s src)) ∧
    (∃ t, exec (aluInstr .or src) s = .next t ∧ (∀ i, t.a.getLsbD i = (s.a.getLsbD i || (value s src).getLsbD i)) ∧
      t.flag .z = decide (t.a = 0#8) ∧ t.flag .n = false ∧ t.flag .h = false ∧ t.flag .c = false ∧ OnlyAF s t (reads s src))

/-- R68, R69, R94, R96: INC and DEC of a register write it, Z, N and H (H as the spec derives it from R65 and R66), and never C. -/
def Obligations.IncDecRegister : Prop :=
  (∀ r, Row (incReg r) [0x04 + 8 * r8Code r] 4 ∧ Row (decReg r) [0x05 + 8 * r8Code r] 4) ∧
  ∀ (r : R8) (s : State),
    (∃ t, exec (incReg r) s = .next t ∧ OnlyRegF s t r (s.r8 r + 1) ∧ t.flag .z = decide (s.r8 r = 0xFF#8) ∧ t.flag .n = false ∧
      t.flag .h = decide ((s.r8 r).toNat % 16 = 15) ∧ t.flag .c = s.flag .c) ∧
    (∃ t, exec (decReg r) s = .next t ∧ OnlyRegF s t r (s.r8 r - 1) ∧ t.flag .z = decide (s.r8 r = 0x01#8) ∧ t.flag .n = true ∧
      t.flag .h = decide ((s.r8 r).toNat % 16 = 0) ∧ t.flag .c = s.flag .c)

/-- R68, R69, R95, R97: INC and DEC of the byte at HL: one read, one write there, Z, N and H (H as the spec derives it from R65 and R66),
and never C. -/
def Obligations.IncDecAtHl : Prop :=
  Row .incAtHl [0x34] 12 ∧ Row .decAtHl [0x35] 12 ∧
  ∀ s : State,
    (∃ t, exec .incAtHl s = .next t ∧ StoredByte s t s.hl (s.busRead s.hl + 1) ∧
      t.flag .z = decide (s.busRead s.hl = 0xFF#8) ∧ t.flag .n = false ∧
      t.flag .h = decide ((s.busRead s.hl).toNat % 16 = 15) ∧ t.flag .c = s.flag .c ∧ t.f &&& 0x0F#8 = s.f &&& 0x0F#8 ∧
      t = { s with
        f := t.f, mem := t.mem
        bus := s.bus ++ [.read s.hl (s.busRead s.hl), .write s.hl (s.busRead s.hl + 1)] }) ∧
    (∃ t, exec .decAtHl s = .next t ∧ StoredByte s t s.hl (s.busRead s.hl - 1) ∧
      t.flag .z = decide (s.busRead s.hl = 0x01#8) ∧ t.flag .n = true ∧
      t.flag .h = decide ((s.busRead s.hl).toNat % 16 = 0) ∧ t.flag .c = s.flag .c ∧ t.f &&& 0x0F#8 = s.f &&& 0x0F#8 ∧
      t = { s with
        f := t.f, mem := t.mem
        bus := s.bus ++ [.read s.hl (s.busRead s.hl), .write s.hl (s.busRead s.hl - 1)] })

/-- R98: DAA, by its pseudocode on numbers: the new A, Z, H and C; N stays. -/
def Obligations.DaaAdjusts : Prop :=
  Row .daa [0x27] 4 ∧
  ∀ s : State, ∃ t, exec .daa s = .next t ∧
    (let a := s.a.toNat
     let high := s.flag .c || (!s.flag .n && decide (a > 0x99))
     let low := s.flag .h || (!s.flag .n && decide (a % 16 > 9))
     let sum := (if high then 0x60 else 0) + (if low then 0x06 else 0)
     t.a.toNat = (if s.flag .n then a + 256 - sum else a + sum) % 256 ∧ t.flag .c = high) ∧
    t.flag .z = decide (t.a = 0#8) ∧ t.flag .n = s.flag .n ∧ t.flag .h = false ∧ OnlyAF s t []

/-- R98 with R72 and R78, as 95_test_vectors.md L2.2b states it over the whole domain: after the addition or subtraction of two
two-digit BCD bytes, DAA gives the BCD sum or difference modulo 100, with the decimal carry or borrow in C. -/
def Obligations.DaaMakesDecimalSums : Prop :=
  ∀ (x y : Nat) (s : State), x < 100 → y < 100 → s.a = bcd x →
    (∃ t u, exec (.addAN8 (bcd y)) s = .next t ∧ exec .daa t = .next u ∧ u.a = bcd ((x + y) % 100) ∧
      u.flag .c = decide (x + y ≥ 100) ∧ u.flag .z = decide ((x + y) % 100 = 0)) ∧
    (∃ t u, exec (.subN8 (bcd y)) s = .next t ∧ exec .daa t = .next u ∧ u.a = bcd ((x + 100 - y) % 100) ∧
      u.flag .c = decide (x < y) ∧ u.flag .n = true ∧ u.flag .z = decide (x = y))

/-- R99 to R101: CPL, SCF and CCF (flags by the spec's own decision D17). -/
def Obligations.ComplementAndCarryInstructions : Prop :=
  Row .cpl [0x2F] 4 ∧ Row .scf [0x37] 4 ∧ Row .ccf [0x3F] 4 ∧
  ∀ s : State,
    (∃ t, exec .cpl s = .next t ∧ t.a = ~~~ s.a ∧ t.flag .n = true ∧ t.flag .h = true ∧ t.flag .z = s.flag .z ∧
      t.flag .c = s.flag .c ∧ OnlyAF s t []) ∧
    (∃ t, exec .scf s = .next t ∧ t.flag .n = false ∧ t.flag .h = false ∧ t.flag .c = true ∧ t.flag .z = s.flag .z ∧ OnlyF s t) ∧
    (∃ t, exec .ccf s = .next t ∧ t.flag .n = false ∧ t.flag .h = false ∧ (t.flag .c = !s.flag .c) ∧ t.flag .z = s.flag .z ∧
      OnlyF s t)

/-! ### 16-bit arithmetic -/

/-- R105 to R107 (flags by the spec's own decision D17): `ADD HL,rr` gives the sum modulo 0x10000, N=0, H out of bit 11, C out of
bit 15, Z unchanged; `INC rr` and `DEC rr` change the pair by 1 modulo 0x10000, and no flag. -/
def Obligations.PairArithmetic : Prop :=
  (∀ p, Row (addHlPair p) [0x09 + 16 * pairCode p] 8 ∧ Row (incPair p) [0x03 + 16 * pairCode p] 8 ∧
    Row (decPair p) [0x0B + 16 * pairCode p] 8) ∧
  ∀ (p : Pair) (s : State), (∃ t, exec (addHlPair p) s = .next t ∧
    t.hl.toNat = (s.hl.toNat + (s.pair p).toNat) % 65536 ∧ t.flag .z = s.flag .z ∧ t.flag .n = false ∧
    t.flag .h = decide (s.hl.toNat % 4096 + (s.pair p).toNat % 4096 > 4095) ∧
    t.flag .c = decide (s.hl.toNat + (s.pair p).toNat > 65535) ∧ t.f &&& 0x0F#8 = s.f &&& 0x0F#8 ∧
    t = { s with h := t.h, l := t.l, f := t.f }) ∧
    (∃ t, exec (incPair p) s = .next t ∧ (∀ q, t.pair q = if q = p then s.pair p + 1 else s.pair q) ∧
      t = { s with b := t.b, c := t.c, d := t.d, e := t.e, h := t.h, l := t.l, sp := t.sp }) ∧
    (∃ t, exec (decPair p) s = .next t ∧ (∀ q, t.pair q = if q = p then s.pair p - 1 else s.pair q) ∧
      t = { s with b := t.b, c := t.c, d := t.d, e := t.e, h := t.h, l := t.l, sp := t.sp })

/-- R104, R108, R165 (flags by the spec's own decisions D16 and D17): `ADD SP,e8` and `LD HL,SP+e8`: the sum with the signed byte, Z=0, N=0, and under
SIGNED_ADD_FLAGS = Hardware H and C are the carries out of bits 3 and 7 of the unsigned sum of the low bytes. -/
def Obligations.SignedAddToSpHardware : Prop :=
  (∀ e, Row (.addSpE8 e) [0xE8, e] 16 ∧ Row (.ldHlSpE8 e) [0xF8, e] 12) ∧
  ∀ (e : Byte) (s : State), s.config.signedAddFlags = .hardware →
    (∃ t, exec (.addSpE8 e) s = .next t ∧ (t.sp.toNat : Int) = (s.sp.toNat + e.toInt) % 65536 ∧
      t.flag .z = false ∧ t.flag .n = false ∧ t.flag .h = decide (s.sp.toNat % 16 + e.toNat % 16 > 15) ∧
      t.flag .c = decide (s.sp.toNat % 256 + e.toNat > 255) ∧ t.f &&& 0x0F#8 = s.f &&& 0x0F#8 ∧ t = { s with sp := t.sp, f := t.f }) ∧
    (∃ t, exec (.ldHlSpE8 e) s = .next t ∧ (t.hl.toNat : Int) = (s.sp.toNat + e.toInt) % 65536 ∧
      t.flag .z = false ∧ t.flag .n = false ∧ t.flag .h = decide (s.sp.toNat % 16 + e.toNat % 16 > 15) ∧
      t.flag .c = decide (s.sp.toNat % 256 + e.toNat > 255) ∧ t.f &&& 0x0F#8 = s.f &&& 0x0F#8 ∧
      t = { s with h := t.h, l := t.l, f := t.f })

/-- R109 (the spec's own literal reading, decision D16) on R108 and R165 (Z=0 and N=0 by decision D17): under SIGNED_ADD_FLAGS = Magnitude a byte of 0 or more adds its magnitude and a negative byte subtracts it, at the
boundaries of the unsigned low byte; the result is the same. -/
def Obligations.SignedAddToSpMagnitude : Prop :=
  ∀ (e : Byte) (s : State), s.config.signedAddFlags = .magnitude →
    (let lo := s.sp.toNat % 256
     let m := e.toInt.natAbs
     let h := if e.toInt ≥ 0 then decide (lo % 16 + m % 16 > 15) else decide (lo % 16 < m % 16)
     let c := if e.toInt ≥ 0 then decide (lo + m > 255) else decide (lo < m)
     (∃ t, exec (.addSpE8 e) s = .next t ∧ (t.sp.toNat : Int) = (s.sp.toNat + e.toInt) % 65536 ∧
       t.flag .z = false ∧ t.flag .n = false ∧ t.flag .h = h ∧ t.flag .c = c ∧ t.f &&& 0x0F#8 = s.f &&& 0x0F#8 ∧
       t = { s with sp := t.sp, f := t.f }) ∧
     (∃ t, exec (.ldHlSpE8 e) s = .next t ∧ (t.hl.toNat : Int) = (s.sp.toNat + e.toInt) % 65536 ∧
       t.flag .z = false ∧ t.flag .n = false ∧ t.flag .h = h ∧ t.flag .c = c ∧ t.f &&& 0x0F#8 = s.f &&& 0x0F#8 ∧
       t = { s with h := t.h, l := t.l, f := t.f }))

/-- R104, its last sentence: the two readings agree for every byte below 0x80 and differ for some byte above. -/
def Obligations.SignedAddReadingsAgreeBelow128 : Prop :=
  let hw (s : State) : State := { s with config := { s.config with signedAddFlags := .hardware } }
  let mag (s : State) : State := { s with config := { s.config with signedAddFlags := .magnitude } }
  (∀ (e : Byte) (s : State), e.toNat < 128 → ∃ t u, exec (.addSpE8 e) (hw s) = .next t ∧
    exec (.addSpE8 e) (mag s) = .next u ∧ t.f = u.f ∧ t.sp = u.sp) ∧
  (∃ (e : Byte) (s : State), e.toNat ≥ 128 ∧ ∃ t u, exec (.addSpE8 e) (hw s) = .next t ∧
    exec (.addSpE8 e) (mag s) = .next u ∧ t.f ≠ u.f ∧ t.sp = u.sp)

/-! ### Rotates, shifts, bits -/

/-- R110 to R113 (flags by the spec's own decision D17): the accumulator rotates: A, C out, and Z, N and H 0 always. -/
def Obligations.AccumulatorRotatesClearZ : Prop :=
  Row .rlca [0x07] 4 ∧ Row .rrca [0x0F] 4 ∧ Row .rla [0x17] 4 ∧ Row .rra [0x1F] 4 ∧
  ∀ s : State,
    (∃ t, exec .rlca s = .next t ∧ t.a.toNat = s.a.toNat * 2 % 256 + s.a.toNat / 128 ∧ t.flag .c = s.a.getLsbD 7 ∧
      t.flag .z = false ∧ t.flag .n = false ∧ t.flag .h = false ∧ OnlyAF s t []) ∧
    (∃ t, exec .rrca s = .next t ∧ t.a.toNat = s.a.toNat / 2 + 128 * (s.a.toNat % 2) ∧ t.flag .c = s.a.getLsbD 0 ∧
      t.flag .z = false ∧ t.flag .n = false ∧ t.flag .h = false ∧ OnlyAF s t []) ∧
    (∃ t, exec .rla s = .next t ∧ t.a.toNat = s.a.toNat * 2 % 256 + one (s.flag .c) ∧ t.flag .c = s.a.getLsbD 7 ∧
      t.flag .z = false ∧ t.flag .n = false ∧ t.flag .h = false ∧ OnlyAF s t []) ∧
    (∃ t, exec .rra s = .next t ∧ t.a.toNat = s.a.toNat / 2 + 128 * one (s.flag .c) ∧ t.flag .c = s.a.getLsbD 0 ∧
      t.flag .z = false ∧ t.flag .n = false ∧ t.flag .h = false ∧ OnlyAF s t [])

/-- R114 and the odd rules R115 to R129: the CB rotates and shifts of a register. -/
def Obligations.CbShiftsOfRegister : Prop :=
  (∀ op r, Row (shiftRegInstr op r) [0xCB, 8 * shiftCode op + r8Code r] 8) ∧
  ∀ (op : ShiftOp) (r : R8) (s : State), ∃ t, exec (shiftRegInstr op r) s = .next t ∧
    (let res := BitVec.ofNat 8 (shifted op (s.r8 r).toNat (one (s.flag .c)))
     OnlyRegF s t r res ∧ t.flag .z = decide (res = 0#8)) ∧
    t.flag .n = false ∧ t.flag .h = false ∧ t.flag .c = shiftedOut op (s.r8 r)

/-- R114 and the even rules R116 to R130: the CB rotates and shifts of the byte at HL, one read and one write. -/
def Obligations.CbShiftsAtHl : Prop :=
  (∀ op, Row (shiftAtHlInstr op) [0xCB, 8 * shiftCode op + 6] 16) ∧
  ∀ (op : ShiftOp) (s : State), ∃ t, exec (shiftAtHlInstr op) s = .next t ∧
    (let res := BitVec.ofNat 8 (shifted op (s.busRead s.hl).toNat (one (s.flag .c)))
     StoredByte s t s.hl res ∧ t.flag .z = decide (res = 0#8) ∧
     t = { s with f := t.f, mem := t.mem, bus := s.bus ++ [.read s.hl (s.busRead s.hl), .write s.hl res] }) ∧
    t.flag .n = false ∧ t.flag .h = false ∧ t.flag .c = shiftedOut op (s.busRead s.hl) ∧ t.f &&& 0x0F#8 = s.f &&& 0x0F#8

/-- R131, R132 (flags by the spec's own decision D17): BIT writes Z, N and H only. -/
def Obligations.BitTestsOneBit : Prop :=
  (∀ k, (∀ r, Row (bitRegInstr k r) [0xCB, 0x40 + 8 * bitCode k + r8Code r] 8) ∧
    Row (bitAtHlInstr k) [0xCB, 0x46 + 8 * bitCode k] 12) ∧
  ∀ (k : BitNumber) (s : State),
    (∀ r, ∃ t, exec (bitRegInstr k r) s = .next t ∧ (t.flag .z = !(s.r8 r).getLsbD (bitIndex k)) ∧ t.flag .n = false ∧
      t.flag .h = true ∧ t.flag .c = s.flag .c ∧ OnlyF s t) ∧
    (∃ t, exec (bitAtHlInstr k) s = .next t ∧ (t.flag .z = !(s.busRead s.hl).getLsbD (bitIndex k)) ∧ t.flag .n = false ∧
      t.flag .h = true ∧ t.flag .c = s.flag .c ∧ t.a = s.a ∧ OnlyAF s t [.read s.hl (s.busRead s.hl)])

/-- R133, R135: RES and SET of a register change one bit and no flag. -/
def Obligations.ResSetRegister : Prop :=
  (∀ k r, Row (resRegInstr k r) [0xCB, 0x80 + 8 * bitCode k + r8Code r] 8 ∧
    Row (setRegInstr k r) [0xCB, 0xC0 + 8 * bitCode k + r8Code r] 8) ∧
  ∀ (k : BitNumber) (r : R8) (s : State),
    (∃ t v, exec (resRegInstr k r) s = .next t ∧ OnlyReg s t r v [] ∧
      ∀ i < 8, v.getLsbD i = if i = bitIndex k then false else (s.r8 r).getLsbD i) ∧
    (∃ t v, exec (setRegInstr k r) s = .next t ∧ OnlyReg s t r v [] ∧
      ∀ i < 8, v.getLsbD i = if i = bitIndex k then true else (s.r8 r).getLsbD i)

/-- R134, R136: RES and SET of the byte at HL: one read and one write, also of an unchanged byte, and no flag. -/
def Obligations.ResSetAtHl : Prop :=
  (∀ k, Row (resAtHlInstr k) [0xCB, 0x86 + 8 * bitCode k] 16 ∧ Row (setAtHlInstr k) [0xCB, 0xC6 + 8 * bitCode k] 16) ∧
  ∀ (k : BitNumber) (s : State),
    (∃ t v, exec (resAtHlInstr k) s = .next t ∧ StoredByte s t s.hl v ∧
      t = { s with mem := t.mem, bus := s.bus ++ [.read s.hl (s.busRead s.hl), .write s.hl v] } ∧
      ∀ i < 8, v.getLsbD i = if i = bitIndex k then false else (s.busRead s.hl).getLsbD i) ∧
    (∃ t v, exec (setAtHlInstr k) s = .next t ∧ StoredByte s t s.hl v ∧
      t = { s with mem := t.mem, bus := s.bus ++ [.read s.hl (s.busRead s.hl), .write s.hl v] } ∧
      ∀ i < 8, v.getLsbD i = if i = bitIndex k then true else (s.busRead s.hl).getLsbD i)

/-! ### Loads and the stack -/

/-- R141, R142, R143: the loads of a register from a register, an immediate and the byte at HL. -/
def Obligations.LoadsOfRegister : Prop :=
  (∀ dst, (∀ r, Row (ldRegReg dst r) [0x40 + 8 * r8Code dst + r8Code r] 4) ∧
    (∀ n, Row (ldRegImm dst n) [0x06 + 8 * r8Code dst, n] 8) ∧ Row (ldRegAtHl dst) [0x46 + 8 * r8Code dst] 8) ∧
  ∀ (dst : R8) (s : State),
    (∀ r, ∃ t, exec (ldRegReg dst r) s = .next t ∧ OnlyReg s t dst (s.r8 r) []) ∧
    (∀ n, ∃ t, exec (ldRegImm dst n) s = .next t ∧ OnlyReg s t dst n []) ∧
    (∃ t, exec (ldRegAtHl dst) s = .next t ∧ OnlyReg s t dst (s.busRead s.hl) [.read s.hl (s.busRead s.hl)])

/-- R144, R145: the stores of a register and of an immediate at HL. -/
def Obligations.StoresAtHl : Prop :=
  (∀ r, Row (ldAtHlReg r) [0x70 + r8Code r] 8) ∧ (∀ n, Row (.ldAtHlN8 n) [0x36, n] 12) ∧
  ∀ s : State,
    (∀ r, ∃ t, exec (ldAtHlReg r) s = .next t ∧ StoredByte s t s.hl (s.r8 r) ∧
      t = { s with mem := t.mem, bus := s.bus ++ [.write s.hl (s.r8 r)] }) ∧
    (∀ n, ∃ t, exec (.ldAtHlN8 n) s = .next t ∧ StoredByte s t s.hl n ∧
      t = { s with mem := t.mem, bus := s.bus ++ [.write s.hl n] })

/-- R146, R147, R150, R152, R154: the loads of A from BC, DE, an absolute address and the high page. -/
def Obligations.LoadsOfAccumulator : Prop :=
  (Row .ldAAtBc [0x0A] 8 ∧ Row .ldAAtDe [0x1A] 8 ∧ (∀ hi lo, Row (.ldAAtA16 (hi ++ lo)) [0xFA, lo, hi] 16) ∧
    Row .ldhAAtC [0xF2] 8 ∧ ∀ o, Row (.ldhAAtA8 o) [0xF0, o] 12) ∧
  LoadsA .ldAAtBc (fun s => s.b ++ s.c) ∧ LoadsA .ldAAtDe (fun s => s.d ++ s.e) ∧
  (∀ addr, LoadsA (.ldAAtA16 addr) (fun _ => addr)) ∧ LoadsA .ldhAAtC (fun s => page s.c) ∧
  (∀ o, LoadsA (.ldhAAtA8 o) (fun _ => page o))

/-- R148, R149, R151, R153, R155: the stores of A to BC, DE, an absolute address and the high page. -/
def Obligations.StoresOfAccumulator : Prop :=
  (Row .ldAtBcA [0x02] 8 ∧ Row .ldAtDeA [0x12] 8 ∧ (∀ hi lo, Row (.ldAtA16A (hi ++ lo)) [0xEA, lo, hi] 16) ∧
    Row .ldhAtCA [0xE2] 8 ∧ ∀ o, Row (.ldhAtA8A o) [0xE0, o] 12) ∧
  StoresA .ldAtBcA (fun s => s.b ++ s.c) ∧ StoresA .ldAtDeA (fun s => s.d ++ s.e) ∧
  (∀ addr, StoresA (.ldAtA16A addr) (fun _ => addr)) ∧ StoresA .ldhAtCA (fun s => page s.c) ∧
  (∀ o, StoresA (.ldhAtA8A o) (fun _ => page o))

/-- R156 to R159: the access is at HL as it was; HL is then stepped by one, modulo 0x10000. -/
def Obligations.PostStepThroughHl : Prop :=
  (Row .ldAAtHld [0x3A] 8 ∧ Row .ldAtHldA [0x32] 8 ∧ Row .ldAAtHli [0x2A] 8 ∧ Row .ldAtHliA [0x22] 8) ∧
  ∀ s : State,
    (∃ t, exec .ldAAtHld s = .next t ∧ t.a = s.busRead s.hl ∧ t.hl = s.hl - 1 ∧
      t = { s with a := t.a, h := t.h, l := t.l, bus := s.bus ++ [.read s.hl (s.busRead s.hl)] }) ∧
    (∃ t, exec .ldAtHldA s = .next t ∧ StoredByte s t s.hl s.a ∧ t.hl = s.hl - 1 ∧
      t = { s with h := t.h, l := t.l, mem := t.mem, bus := s.bus ++ [.write s.hl s.a] }) ∧
    (∃ t, exec .ldAAtHli s = .next t ∧ t.a = s.busRead s.hl ∧ t.hl = s.hl + 1 ∧
      t = { s with a := t.a, h := t.h, l := t.l, bus := s.bus ++ [.read s.hl (s.busRead s.hl)] }) ∧
    (∃ t, exec .ldAtHliA s = .next t ∧ StoredByte s t s.hl s.a ∧ t.hl = s.hl + 1 ∧
      t = { s with h := t.h, l := t.l, mem := t.mem, bus := s.bus ++ [.write s.hl s.a] })

/-- R162, R163, R164: `LD rr,n16`, `LD (a16),SP` with the low byte first, and `LD SP,HL`. -/
def Obligations.WideLoads : Prop :=
  ((∀ p hi lo, Row (ldPairImm p (hi ++ lo)) [0x01 + 16 * pairCode p, lo, hi] 12) ∧
    (∀ hi lo, Row (.ldAtA16Sp (hi ++ lo)) [0x08, lo, hi] 20) ∧ Row .ldSpHl [0xF9] 8) ∧
  ∀ s : State,
    (∀ p n, ∃ t, exec (ldPairImm p n) s = .next t ∧ (∀ q, t.pair q = if q = p then n else s.pair q) ∧
      t = { s with b := t.b, c := t.c, d := t.d, e := t.e, h := t.h, l := t.l, sp := t.sp }) ∧
    (∀ addr, ∃ t, exec (.ldAtA16Sp addr) s = .next t ∧ StoredWord s t addr s.sp ∧
      t = { s with mem := t.mem, bus := s.bus ++ wordWrites addr s.sp }) ∧
    exec .ldSpHl s = .next { s with sp := s.hl }

/-- R160, R166: PUSH moves SP down by 2, then writes the low byte at SP and the high byte at SP + 1; `PUSH AF` pushes F with its
low nibble 0. -/
def Obligations.PushStoresPair : Prop :=
  (∀ p, Row (pushPair p) [0xC5 + 16 * stackPairCode p] 16) ∧
  ∀ (p : StackPair) (s : State), ∃ t, exec (pushPair p) s = .next t ∧
    (let v : Word := match p with
       | .bc => s.b ++ s.c
       | .de => s.d ++ s.e
       | .hl => s.h ++ s.l
       | .af => s.a ++ (s.f &&& 0xF0#8)
     StoredWord s t (s.sp - 2) v ∧ t = { s with sp := s.sp - 2, mem := t.mem, bus := s.bus ++ wordWrites (s.sp - 2) v })

/-- R167 with R161's access order: POP reads the low byte at SP, then the high byte, moves SP up by 2 and writes the pair; `POP AF` forces the low
nibble of F to 0. -/
def Obligations.PopLoadsPair : Prop :=
  (∀ p, Row (popPair p) [0xC1 + 16 * stackPairCode p] 12) ∧
  ∀ s : State,
    (let hi := s.busRead (s.sp + 1)
     let lo := s.busRead s.sp
     let u : State := { s with sp := s.sp + 2, bus := s.bus ++ wordReads s s.sp }
     exec .popBc s = .next { u with b := hi, c := lo } ∧ exec .popDe s = .next { u with d := hi, e := lo } ∧
     exec .popHl s = .next { u with h := hi, l := lo } ∧ exec .popAf s = .next { u with a := hi, f := lo &&& 0xF0#8 })

/-- What the spec derives in R161's last sentence, through the instructions: a POP directly after a PUSH gives the pushed word (with F's low nibble
0) to the pair it names, restores SP, and changes no register of another pair. -/
def Obligations.PopAfterPush : Prop :=
  ∀ (p q : StackPair) (s : State), ∃ t u, exec (pushPair p) s = .next t ∧ exec (popPair q) t = .next u ∧ u.sp = s.sp ∧
    u.stackPair q = (if q = .af then s.stackPair p &&& 0xFFF0#16 else s.stackPair p) ∧
    (∀ r, r ≠ q → u.stackPair r = s.stackPair r)

/-- R33 (byte order by the spec's own decision D1) and R41, with the wrap of R34: a byte read returns the most recent write to that address and no other;
after `Write16` at any address, `Read16` there gives the word back, the address holds its low byte and the next one its high byte. That
the bytes behind the bus are plain RAM is the model's choice (log entry 1). -/
def Obligations.ReadsReturnLastWrites : Prop :=
  (∀ (addr x : Word) (v : Byte) (s : State), (s.memWrite addr v).busRead x = if x = addr then v else s.busRead x) ∧
  (∀ (addr v : Word) (s : State), ((s.write16 addr v).read16 addr).1 = v ∧
    (s.write16 addr v).busRead addr = v.extractLsb' 0 8 ∧ (s.write16 addr v).busRead (addr + 1) = v.extractLsb' 8 8)

/-! ### Jumps, calls, returns -/

/-- R168 to R172: the jumps: PC is the target if the condition holds, at 4 extra cycles in the conditional forms, and nothing
else changes. -/
def Obligations.JumpsSetPc : Prop :=
  ((∀ hi lo, Row (.jpA16 (hi ++ lo)) [0xC3, lo, hi] 16) ∧ Row .jpHl [0xE9] 4 ∧ (∀ e, Row (.jrE8 e) [0x18, e] 12) ∧
    ∀ cc, (∀ hi lo, Row (jpCond cc (hi ++ lo)) [0xC2 + 8 * condCode cc, lo, hi] 12) ∧
      ∀ e, Row (jrCond cc e) [0x20 + 8 * condCode cc, e] 8) ∧
  ∀ s : State,
    (∀ addr, exec (.jpA16 addr) s = .next { s with pc := addr }) ∧
    exec .jpHl s = .next { s with pc := s.h ++ s.l } ∧
    (∀ e : Byte, exec (.jrE8 e) s = .next { s with pc := s.pc + BitVec.ofInt 16 e.toInt }) ∧
    (∀ cc addr, exec (jpCond cc addr) s = .next (if holds s cc then { s with pc := addr, cycles := s.cycles + 4 } else s)) ∧
    (∀ cc e, exec (jrCond cc e) s =
      .next (if holds s cc then { s with pc := s.pc + BitVec.ofInt 16 e.toInt, cycles := s.cycles + 4 } else s))

/-- R173, R174, R178: the calls push the address after the instruction, low byte at the lower address, and jump; not taken,
nothing changes. -/
def Obligations.CallsPushPc : Prop :=
  ((∀ hi lo, Row (.callA16 (hi ++ lo)) [0xCD, lo, hi] 24) ∧
    (∀ cc hi lo, Row (callCond cc (hi ++ lo)) [0xC4 + 8 * condCode cc, lo, hi] 12) ∧
    ∀ y, Row (rstInstr y) [0xC7 + (rstAddress y).extractLsb' 0 8] 16) ∧
  ∀ s : State,
    (∀ addr, ∃ t, exec (.callA16 addr) s = .next t ∧ StoredWord s t (s.sp - 2) s.pc ∧
      t = { s with pc := addr, sp := s.sp - 2, mem := t.mem, bus := s.bus ++ wordWrites (s.sp - 2) s.pc }) ∧
    (∀ cc addr, ∃ t, exec (callCond cc addr) s = .next t ∧
      (if holds s cc then StoredWord s t (s.sp - 2) s.pc ∧
        t = { s with
          pc := addr, sp := s.sp - 2, mem := t.mem
          bus := s.bus ++ wordWrites (s.sp - 2) s.pc, cycles := s.cycles + 12 }
      else t = s)) ∧
    (∀ y, ∃ t, exec (rstInstr y) s = .next t ∧ StoredWord s t (s.sp - 2) s.pc ∧
      t = { s with pc := rstAddress y, sp := s.sp - 2, mem := t.mem, bus := s.bus ++ wordWrites (s.sp - 2) s.pc })

/-- R175, R176: the returns pop PC, the low byte first; `RET cc` not taken makes no stack access. -/
def Obligations.ReturnsPopPc : Prop :=
  (Row .ret [0xC9] 16 ∧ ∀ cc, Row (retCond cc) [0xC0 + 8 * condCode cc] 8) ∧
  ∀ s : State,
    (let u : State := { s with pc := wordAt s s.sp, sp := s.sp + 2, bus := s.bus ++ wordReads s s.sp }
     exec .ret s = .next u ∧
     (∀ cc, exec (retCond cc) s = .next (if holds s cc then { u with cycles := s.cycles + 12 } else s)))

/-- The return from an interrupt (R177; that it sets IME at once is the spec's own decision D11): RETI pops PC, sets IME and drops a
delayed EI, and nothing else changes. -/
def Obligations.RetiPopsPcAndSetsIme : Prop :=
  Row .reti [0xD9] 16 ∧
  ∀ s : State, exec .reti s = .next { s with
    pc := wordAt s s.sp, sp := s.sp + 2, ime := true, eiPending := false, bus := s.bus ++ wordReads s s.sp }

/-! ### CPU control -/

/-- R180, R182, R183, R184 (by the spec's own decisions D9, D10, D14, D31): NOP changes nothing, STOP sets the mode whatever its second byte, DI clears IME and a delayed EI at
once, EI only makes its effect due. -/
def Obligations.NopStopDiEi : Prop :=
  (Row .nop [0x00] 4 ∧ (∀ n, Row (.stop n) [0x10, n] 4) ∧ Row .di [0xF3] 4 ∧ Row .ei [0xFB] 4) ∧
  ∀ s : State, exec .nop s = .next s ∧ (∀ n, exec (.stop n) s = .next { s with mode := .stopped }) ∧
    exec .di s = .next { s with ime := false, eiPending := false } ∧ exec .ei s = .next { s with eiPending := true }

/-- R181 (by the spec's own decisions D12, D13): HALT reads IF and then IE; with IME=0, an interrupt pending and HALT_BUG it does not halt, else it does. -/
def Obligations.HaltHaltsUnlessBug : Prop :=
  Row .halt [0x76] 4 ∧
  ∀ s : State,
    (let ifv := s.busRead 0xFF0F#16
     let iev := s.busRead 0xFFFF#16
     let u : State := { s with bus := s.bus ++ [.read 0xFF0F#16 ifv, .read 0xFFFF#16 iev] }
     exec .halt s = .next (if s.ime = false ∧ ifv &&& iev &&& 0x1F#8 ≠ 0#8 ∧ s.config.haltBug = true
       then { u with haltBug := true } else { u with mode := .halted }))

/-- R185: the prefix byte with any secondary opcode decodes as the instruction of that opcode in the CB map and completes as it, at 4
cycles for the prefix plus that instruction's own. -/
def Obligations.PrefixRunsSecondaryOpcode : Prop :=
  ∀ k : Byte, Row (decodeSecondary k) [0xCB, k] (4 + tableSecondary .sm83 k) ∧
    ∀ s : State, ∃ t, exec (.prefixCb k) s = .next t ∧ exec (decodeSecondary k) s = .next t

/-- R189: no other instruction can fail: every other one answers a next state, in every state. -/
def Obligations.OnlyIllegalOpcodesFail : Prop :=
  ∀ (i : Instr) (s : State), (∀ x, i ≠ illegalInstr x) → ∃ t, exec i s = .next t

/-! ### The step -/

/-- R60 to R63 (the order of the check's reads, the wake and EI's delay by the spec's own decisions D8, D9, D12, D23): a step that comes
to a fetch runs the instruction that the bytes at PC decode to, as exec gives it, in the
state with PC past its bytes, the check's and the fetch's reads made, a delayed EI taken, and the base cost (and a wake's 4) counted. -/
def Obligations.StepRunsDecodedInstruction : Prop :=
  ∀ (s : State) (i : Instr) (rest : List Byte), Fetches s → s.haltBug = false →
    decode [s.busRead s.pc, s.busRead (s.pc + 1), s.busRead (s.pc + 2)] = .ok (i, rest) → (∀ x, i ≠ illegalInstr x) →
    step s = exec i { s with
      mode := .running
      pc := s.pc + BitVec.ofNat 16 (3 - rest.length)
      ime := s.ime || s.eiPending
      eiPending := false
      cycles := wakeCost s + baseCycles s.config.cycles (s.busRead s.pc) (s.busRead (s.pc + 1))
      bus := checkReads s ++ [.read s.pc (s.busRead s.pc), .read (s.pc + 1) (s.busRead (s.pc + 1)),
        .read (s.pc + 2) (s.busRead (s.pc + 2))].take (3 - rest.length) }

/-- R61, R217 (the spec's own decision D13; the check's reads, the wake and EI's delay as above by D8, D9, D12, D23): with HALT's bug pending the opcode byte is not stepped over: it is read again as the first operand or the
secondary opcode, and PC ends one lower. -/
def Obligations.HaltBugRereadsOpcode : Prop :=
  ∀ (s : State) (i : Instr) (rest : List Byte), Fetches s → s.haltBug = true →
    decode [s.busRead s.pc, s.busRead s.pc, s.busRead (s.pc + 1)] = .ok (i, rest) → (∀ x, i ≠ illegalInstr x) →
    step s = exec i { s with
      mode := .running
      haltBug := false
      pc := s.pc + BitVec.ofNat 16 (3 - rest.length) - 1
      ime := s.ime || s.eiPending
      eiPending := false
      cycles := wakeCost s + baseCycles s.config.cycles (s.busRead s.pc) (s.busRead s.pc)
      bus := checkReads s ++ [.read s.pc (s.busRead s.pc), .read s.pc (s.busRead s.pc),
        .read (s.pc + 1) (s.busRead (s.pc + 1))].take (3 - rest.length) }

/-- R61, R188 (by the spec's own decisions D15, D26; the mode in a waking step is log entry 7, the reports of the faulted state log
entries 4 to 6): a step that fetches an illegal opcode faults; the faulted state is the state before the step with `fault` set, the
opcode read is its last bus call, and it reports no cycles. -/
def Obligations.StepFaultsOnIllegalOpcode : Prop :=
  ∀ s : State, Fetches s → s.busRead s.pc ∈ illegalOpcodes →
    step s = .fault (.invalidOpcode (s.busRead s.pc) s.pc { s with
      fault := some { opcode := s.busRead s.pc, pc := s.pc }
      cycles := 0
      bus := checkReads s ++ [.read s.pc (s.busRead s.pc)] })

/-- R190 (the spec's own decision D26; log entry 6): a core that holds a fault makes no bus access, changes no state and returns the same fault. -/
def Obligations.FaultIsAbsorbing : Prop :=
  ∀ (s : State) (x : InvalidOpcode), s.fault = some x →
    step s = .fault (.invalidOpcode x.opcode x.pc { s with cycles := 0, bus := [] })

/-- R7, R189, as the spec derives them: a step is never refused, a step that goes on reports a positive number of cycles whatever the
parameters, and it faults exactly when the core holds a fault or fetches an illegal opcode. The count's place in the state is the
model's (log entry 4). -/
def Obligations.StepGoesOnOrFaults : Prop :=
  ∀ s : State, (Goes s ∨ ∃ x, step s = .fault x) ∧ (∀ t, step s = .next t → 0 < t.cycles) ∧
    ((∃ x, step s = .fault x) ↔ s.fault ≠ none ∨ (Fetches s ∧ s.busRead s.pc ∈ illegalOpcodes))

/-- R193, R195 to R197, and for a step that wakes the core R199, R200, R225 (by the spec's own decisions D4 to D9, D12, D30): with IME=1 and an interrupt pending the step is a dispatch to the lowest pending source: its bit is
cleared in the byte read from IF, IME and a delayed EI are cleared, PC is pushed, PC becomes the service address; a wake in the same
step adds its 4 cycles. -/
def Obligations.InterruptIsTaken : Prop :=
  ∀ (s : State) (i : Nat), s.fault = none → s.awake = true → s.ime = true → i < 5 →
    (let ifv := s.busRead 0xFF0F#16
     let pending := ifv &&& s.busRead 0xFFFF#16
     pending.getLsbD i = true → (∀ j < i, pending.getLsbD j = false) →
     ∃ t, step s = .next t ∧
       (let cleared := ifv &&& ~~~ (1#8 <<< i)
        (∀ x, t.busRead x = if x = s.sp - 1 then s.pc.extractLsb' 8 8 else if x = s.sp - 2 then s.pc.extractLsb' 0 8
          else if x = 0xFF0F#16 then cleared else s.busRead x) ∧
        t = { s with
          ime := false
          eiPending := false
          mode := .running
          sp := s.sp - 2
          pc := BitVec.ofNat 16 (0x40 + 8 * i)
          mem := t.mem
          cycles := wakeCost s + s.config.intDispatchCycles
          bus := [.read 0xFF0F#16 ifv, .read 0xFFFF#16 (s.busRead 0xFFFF#16), .write 0xFF0F#16 cleared,
            .write (s.sp - 2) (s.pc.extractLsb' 0 8), .write (s.sp - 1) (s.pc.extractLsb' 8 8)] }))

/-- R198 (the spec's own decision D12): an idle step in Halted (nothing pending) or Stopped (STOP_WAKE does not hold) only reads IF and IE and reports 4
cycles. -/
def Obligations.IdleStepChangesNothing : Prop :=
  ∀ s : State, s.fault = none →
    ((s.mode = .halted ∧ s.busRead 0xFF0F#16 &&& s.busRead 0xFFFF#16 &&& 0x1F#8 = 0#8) ∨
     (s.mode = .stopped ∧ stopWakes s.config.stopWake (s.busRead 0xFF0F#16) (s.busRead 0xFFFF#16) = false)) →
    step s = .next { s with
      cycles := 4
      bus := [.read 0xFF0F#16 (s.busRead 0xFF0F#16), .read 0xFFFF#16 (s.busRead 0xFFFF#16)] }

/-- R200 (the spec's own decision D14): with the default STOP_WAKE, a stopped core goes on exactly when bit 4 of IF is set, whatever IE and IME hold. -/
def Obligations.StopIsLeftByJoypadRequest : Prop :=
  ∀ s : State, s.mode = .stopped → s.config.stopWake = defaultConfig.stopWake → s.awake = (s.busRead 0xFF0F#16).getLsbD 4

/-- R18, its instructions' part: IME is written only by DI and RETI among the instructions; EI leaves it to the next fetch. -/
def Obligations.OnlyDiAndRetiWriteIme : Prop :=
  ∀ (i : Instr) (s t : State), exec i s = .next t → i ≠ .di → i ≠ .reti → t.ime = s.ime

/-- R63, R215 (the spec's own decision D9): after an EI with IME=0 the next instruction, here a NOP, runs before any interrupt is taken, and a pending one is
taken by the step after it. -/
def Obligations.EiDelaysByOneInstruction : Prop :=
  ∀ s : State, s.fault = none → s.mode = .running → s.ime = false → s.eiPending = false → s.haltBug = false →
    s.busRead s.pc = 0xFB#8 → s.busRead (s.pc + 1) = 0x00#8 →
    ∃ t u, step s = .next t ∧ t.ime = false ∧ t.eiPending = true ∧ step t = .next u ∧ u.pc = s.pc + 2 ∧ u.sp = s.sp ∧
      u.ime = true ∧ u.eiPending = false ∧
      (s.pending ≠ 0#8 → ∃ v, step u = .next v ∧ v.ime = false ∧ v.sp = s.sp - 2 ∧
        ∃ k, v.pc = serviceAddress k)

/-- R45, R192, R199, R204 (by the spec's own decisions D3, D4, D12; log entry 11): a device's request sets its source's bit in IF and changes nothing else; if the source is enabled, a
halted core goes on, whatever IME holds. -/
def Obligations.DeviceRequestWakesHaltedCore : Prop :=
  ∀ (s : State) (k : Source),
    (∀ i < 8, ((s.requestInterrupt k).busRead 0xFF0F#16).getLsbD i =
      if i = sourceBit k then true else (s.busRead 0xFF0F#16).getLsbD i) ∧
    (∀ x, x ≠ 0xFF0F#16 → (s.requestInterrupt k).busRead x = s.busRead x) ∧
    s.requestInterrupt k = { s with mem := (s.requestInterrupt k).mem } ∧
    (s.mode = .halted → (s.busRead 0xFFFF#16).getLsbD (sourceBit k) = true → (s.requestInterrupt k).awake = true)

/-! ### State, reset, invariants -/

/-- R26: `reset()` sets the register file to the post-boot values and IME to 0, whatever the state before; the machine's first
state has them too. -/
def Obligations.ResetSetsRegisters : Prop :=
  ∀ s r : State, r = s.resetCore ∨ r = State.reset →
    r.a = 0x01#8 ∧ r.f = 0xB0#8 ∧ r.b = 0x00#8 ∧ r.c = 0x13#8 ∧ r.d = 0x00#8 ∧ r.e = 0xD8#8 ∧ r.h = 0x01#8 ∧ r.l = 0x4D#8 ∧
    r.af = 0x01B0#16 ∧ r.bc = 0x0013#16 ∧ r.de = 0x00D8#16 ∧ r.hl = 0x014D#16 ∧ r.sp = 0xFFFE#16 ∧ r.pc = 0x0100#16 ∧ r.ime = false

/-- R27, R211, R214, by the spec's own decisions D24 and D28: `reset()` clears the hidden bits and the fault, leaves every byte behind the
bus, and makes no bus access. The last clause, that the machine's first state is that of `reset()` on a bus whose every byte
is 0, is the model's choice (log entry 2). -/
def Obligations.ResetLeavesTheBus : Prop :=
  (∀ s : State, let r := s.resetCore
    r.mode = .running ∧ r.eiPending = false ∧ r.haltBug = false ∧ r.fault = none ∧ (∀ x, r.busRead x = s.busRead x) ∧ r.bus = []) ∧
  State.reset.resetCore = State.reset ∧ ∀ x, State.reset.busRead x = 0x00#8

/-- R14, R16: a pair and its two halves are the same storage, for every pair and every value; the flags are bits 7 to 4 of F, and
writing one does not disturb the other bits of F. The clauses of AF rest on R167, on R17, which the spec derives, and on log entry 13: a
word written into AF loses its low nibble, and AF reads its low nibble as 0, which is the model's choice where F has a low bit set. -/
def Obligations.PairsAliasHalvesFlagsAreIndependent : Prop :=
  ∀ (v : Word) (x : Byte) (s : State),
    (∀ p, (s.setPair p v).pair p = v) ∧
    ((s.setPair .bc v).b = v.extractLsb' 8 8 ∧ (s.setPair .bc v).c = v.extractLsb' 0 8) ∧
    ((s.setPair .de v).d = v.extractLsb' 8 8 ∧ (s.setPair .de v).e = v.extractLsb' 0 8) ∧
    ((s.setPair .hl v).h = v.extractLsb' 8 8 ∧ (s.setPair .hl v).l = v.extractLsb' 0 8) ∧
    ((s.setStackPair .af v).a = v.extractLsb' 8 8 ∧ (s.setStackPair .af v).f = v.extractLsb' 0 8 &&& 0xF0#8) ∧
    (s.bc = s.b ++ s.c ∧ s.de = s.d ++ s.e ∧ s.hl = s.h ++ s.l ∧ (s.lowNibbleClear → s.af = s.a ++ s.f)) ∧
    ((s.setR8 .b x).bc = x ++ s.c ∧ (s.setR8 .c x).bc = s.b ++ x ∧ (s.setR8 .d x).de = x ++ s.e ∧ (s.setR8 .e x).de = s.d ++ x ∧
      (s.setR8 .h x).hl = x ++ s.l ∧ (s.setR8 .l x).hl = s.h ++ x ∧ (s.setR8 .a x).af = x ++ (s.f &&& 0xF0#8)) ∧
    (s.flag .z = s.f.getLsbD 7 ∧ s.flag .n = s.f.getLsbD 6 ∧ s.flag .h = s.f.getLsbD 5 ∧ s.flag .c = s.f.getLsbD 4) ∧
    (∀ (k : Flag) (w : Bool), (s.setFlag k w).flag k = w ∧
      (∀ i < 8, i ≠ k.bit → (s.setFlag k w).f.getLsbD i = s.f.getLsbD i) ∧ s.setFlag k w = { s with f := (s.setFlag k w).f })

/-- The invariant holds of the state after reset. -/
def Obligations.ResetMeetsInvariant : Prop := State.reset.Inv

/-- Every step keeps the invariant: the canonical form of the memory, `F[3:0]` = 0 (R17), the agreement of HALT's bug, a delayed EI
and the mode (R21, R22), and a fault's record. -/
def Obligations.StepKeepsInvariant : Prop := ∀ s t : State, s.Inv → step s = .next t → t.Inv

/-- No step changes a parameter of the model (log entry 3), and none that goes on leaves a fault behind (R188, R190). -/
def Obligations.StepKeepsParameters : Prop :=
  ∀ s t : State, step s = .next t → t.config = s.config ∧ t.fault = none
end

