-- ==== Sys2Proof/Laws/Bits.lean ====
section
/-! SUPPORT. The small lemmas of the bit, byte-order and extension helpers of Sys2Proof/Machine/Bits.lean. -/

namespace Sys2Proof

/-- A 16-bit value is 256 times its high half plus its low half (R14, R33). -/
theorem joinBytes_toNat (hi lo : Byte) : (joinBytes hi lo).toNat = hi.toNat * 256 + lo.toNat := by
  have h : (joinBytes hi lo).toNat = hi.toNat <<< 8 ||| lo.toNat := BitVec.toNat_append hi lo
  rw [h, ← Nat.shiftLeft_add_eq_or_of_lt lo.isLt, Nat.shiftLeft_eq]

theorem highByte_toNat (v : Word) : (highByte v).toNat = v.toNat / 256 := by
  have := v.isLt
  simp only [highByte, BitVec.extractLsb'_toNat, Nat.shiftRight_eq_div_pow]
  omega

theorem lowByte_toNat (v : Word) : (lowByte v).toNat = v.toNat % 256 := by
  simp [lowByte, BitVec.extractLsb'_toNat]

@[simp] theorem highByte_joinBytes (hi lo : Byte) : highByte (joinBytes hi lo) = hi := by
  apply BitVec.eq_of_toNat_eq
  have := lo.isLt
  rw [highByte_toNat, joinBytes_toNat]
  omega

@[simp] theorem lowByte_joinBytes (hi lo : Byte) : lowByte (joinBytes hi lo) = lo := by
  apply BitVec.eq_of_toNat_eq
  have := lo.isLt
  rw [lowByte_toNat, joinBytes_toNat]
  omega

@[simp] theorem joinBytes_highByte_lowByte (v : Word) : joinBytes (highByte v) (lowByte v) = v := by
  apply BitVec.eq_of_toNat_eq
  rw [joinBytes_toNat, highByte_toNat, lowByte_toNat]
  omega

/-- `MemRead` and `MemWrite` name an address by its number, so two addresses are one when their numbers are. -/
theorem toNat_ne_of_ne {x y : Word} (h : x ≠ y) : x.toNat ≠ y.toNat := fun e => h (BitVec.eq_of_toNat_eq e)

/-- An address is never the next one, modulo 0x10000 (R34). -/
theorem add_one_ne (x : Word) : x + 1 ≠ x := by
  intro h; have := congrArg BitVec.toNat h; simp at this; omega

/-- The two addresses of a word are never one (R33, R34). -/
theorem ne_add_one (x : Word) : x ≠ x + 1 := fun h => add_one_ne x h.symm

/-- The written bit reads as written (R16). -/
theorem bitAt_putBit_same (v : Byte) (i : Nat) (b : Bool) (h : i < 8) : bitAt (putBit v i b) i = b := by
  cases b <;> simp [bitAt, putBit, setBit, clearBit, oneBit, h]

/-- Every other bit reads as before (R16). -/
theorem bitAt_putBit_other (v : Byte) (i j : Nat) (b : Bool) (h : j ≠ i) : bitAt (putBit v i b) j = bitAt v j := by
  by_cases hj : j < 8
  · have : ¬ (j - i = 0 ∧ i ≤ j) := by omega
    cases b <;> simp [bitAt, putBit, setBit, clearBit, oneBit, hj] <;> intros <;> omega
  · simp [bitAt, BitVec.getLsbD_of_ge _ _ (by omega : 8 ≤ j)]

/-- Writing a flag keeps the low nibble of F (R16, R17). -/
theorem lowNibble_putBit (v : Byte) (k : Flag) (b : Bool) : putBit v k.bit b &&& 0x0F#8 = v &&& 0x0F#8 := by
  revert v; cases k <;> cases b <;> decide

/-- The four flags stand at four different bits (R16). -/
theorem Flag.bit_injective {j k : Flag} (h : j ≠ k) : j.bit ≠ k.bit := by
  cases j <;> cases k <;> simp_all [Flag.bit]

theorem Flag.bit_lt (k : Flag) : k.bit < 8 := by cases k <;> decide

/-- A byte popped into F has its low nibble forced to 0 (R17). -/
theorem and_F0_lowNibble (v : Byte) : v &&& 0xF0#8 &&& 0x0F#8 = 0#8 := by
  rw [BitVec.and_assoc]; simp

end Sys2Proof
end

