-- ==== Sys2Proof/Laws/Cases.lean ====
section
/-! SUPPORT. The rows of the opcode table sorted by rule: one case per family of Families.lean and one per other instruction, so that a proof
about every instruction has as many cases as the spec has rules, not rows. -/

namespace Sys2Proof

/-- A claim about every instruction, by the families of Families.lean and the instructions that stand alone. -/
theorem Instr.byRule {P : Instr → Prop}
    (ldRegReg : ∀ dst src, P (ldRegReg dst src))
    (ldRegImm : ∀ dst n, P (ldRegImm dst n))
    (ldRegAtHl : ∀ dst, P (ldRegAtHl dst))
    (ldAtHlReg : ∀ src, P (ldAtHlReg src))
    (aluReg : ∀ op r, P (aluReg op r))
    (aluAtHl : ∀ op, P (aluAtHl op))
    (aluImm : ∀ op n, P (aluImm op n))
    (incReg : ∀ r, P (incReg r))
    (decReg : ∀ r, P (decReg r))
    (addHlPair : ∀ p, P (addHlPair p))
    (incPair : ∀ p, P (incPair p))
    (decPair : ∀ p, P (decPair p))
    (ldPairImm : ∀ p n, P (ldPairImm p n))
    (pushPair : ∀ p, P (pushPair p))
    (popPair : ∀ p, P (popPair p))
    (shiftRegInstr : ∀ op r, P (shiftRegInstr op r))
    (shiftAtHlInstr : ∀ op, P (shiftAtHlInstr op))
    (bitRegInstr : ∀ k r, P (bitRegInstr k r))
    (bitAtHlInstr : ∀ k, P (bitAtHlInstr k))
    (resRegInstr : ∀ k r, P (resRegInstr k r))
    (resAtHlInstr : ∀ k, P (resAtHlInstr k))
    (setRegInstr : ∀ k r, P (setRegInstr k r))
    (setAtHlInstr : ∀ k, P (setAtHlInstr k))
    (jrCond : ∀ cc e, P (jrCond cc e))
    (jpCond : ∀ cc a, P (jpCond cc a))
    (callCond : ∀ cc a, P (callCond cc a))
    (retCond : ∀ cc, P (retCond cc))
    (rstInstr : ∀ t, P (rstInstr t))
    (illegalInstr : ∀ x, P (illegalInstr x))
    (addSpE8 : ∀ e, P (.addSpE8 e))
    (ldAtHlN8 : ∀ n, P (.ldAtHlN8 n))
    (ldAAtA16 : ∀ a, P (.ldAAtA16 a))
    (ldAtA16A : ∀ a, P (.ldAtA16A a))
    (ldhAAtA8 : ∀ o, P (.ldhAAtA8 o))
    (ldhAtA8A : ∀ o, P (.ldhAtA8A o))
    (ldAtA16Sp : ∀ a, P (.ldAtA16Sp a))
    (ldHlSpE8 : ∀ e, P (.ldHlSpE8 e))
    (jpA16 : ∀ a, P (.jpA16 a))
    (jrE8 : ∀ e, P (.jrE8 e))
    (callA16 : ∀ a, P (.callA16 a))
    (stop : ∀ n, P (.stop n))
    (prefixCb : ∀ k, P (.prefixCb k))
    (incAtHl : P .incAtHl)
    (decAtHl : P .decAtHl)
    (daa : P .daa)
    (cpl : P .cpl)
    (scf : P .scf)
    (ccf : P .ccf)
    (rlca : P .rlca)
    (rrca : P .rrca)
    (rla : P .rla)
    (rra : P .rra)
    (ldAAtBc : P .ldAAtBc)
    (ldAAtDe : P .ldAAtDe)
    (ldAtBcA : P .ldAtBcA)
    (ldAtDeA : P .ldAtDeA)
    (ldhAAtC : P .ldhAAtC)
    (ldhAtCA : P .ldhAtCA)
    (ldAAtHld : P .ldAAtHld)
    (ldAtHldA : P .ldAtHldA)
    (ldAAtHli : P .ldAAtHli)
    (ldAtHliA : P .ldAtHliA)
    (ldSpHl : P .ldSpHl)
    (jpHl : P .jpHl)
    (ret : P .ret)
    (reti : P .reti)
    (nop : P .nop)
    (halt : P .halt)
    (di : P .di)
    (ei : P .ei)
    (i : Instr) : P i := by
  cases i with
  | addAN8 n => exact aluImm .add n
  | adcAN8 n => exact aluImm .adc n
  | subN8 n => exact aluImm .sub n
  | sbcAN8 n => exact aluImm .sbc n
  | andN8 n => exact aluImm .and n
  | xorN8 n => exact aluImm .xor n
  | orN8 n => exact aluImm .or n
  | cpN8 n => exact aluImm .cp n
  | addSpE8 e => exact addSpE8 e
  | ldBN8 n => exact ldRegImm .b n
  | ldCN8 n => exact ldRegImm .c n
  | ldDN8 n => exact ldRegImm .d n
  | ldEN8 n => exact ldRegImm .e n
  | ldHN8 n => exact ldRegImm .h n
  | ldLN8 n => exact ldRegImm .l n
  | ldAN8 n => exact ldRegImm .a n
  | ldAtHlN8 n => exact ldAtHlN8 n
  | ldAAtA16 a => exact ldAAtA16 a
  | ldAtA16A a => exact ldAtA16A a
  | ldhAAtA8 o => exact ldhAAtA8 o
  | ldhAtA8A o => exact ldhAtA8A o
  | ldBcN16 n => exact ldPairImm .bc n
  | ldDeN16 n => exact ldPairImm .de n
  | ldHlN16 n => exact ldPairImm .hl n
  | ldSpN16 n => exact ldPairImm .sp n
  | ldAtA16Sp a => exact ldAtA16Sp a
  | ldHlSpE8 e => exact ldHlSpE8 e
  | jpA16 a => exact jpA16 a
  | jpNzA16 a => exact jpCond .nz a
  | jpZA16 a => exact jpCond .z a
  | jpNcA16 a => exact jpCond .nc a
  | jpCA16 a => exact jpCond .c a
  | jrE8 e => exact jrE8 e
  | jrNzE8 e => exact jrCond .nz e
  | jrZE8 e => exact jrCond .z e
  | jrNcE8 e => exact jrCond .nc e
  | jrCE8 e => exact jrCond .c e
  | callA16 a => exact callA16 a
  | callNzA16 a => exact callCond .nz a
  | callZA16 a => exact callCond .z a
  | callNcA16 a => exact callCond .nc a
  | callCA16 a => exact callCond .c a
  | stop n => exact stop n
  | prefixCb k => exact prefixCb k
  | addAB => exact aluReg .add .b
  | addAC => exact aluReg .add .c
  | addAD => exact aluReg .add .d
  | addAE => exact aluReg .add .e
  | addAH => exact aluReg .add .h
  | addAL => exact aluReg .add .l
  | addAA => exact aluReg .add .a
  | addAAtHl => exact aluAtHl .add
  | adcAB => exact aluReg .adc .b
  | adcAC => exact aluReg .adc .c
  | adcAD => exact aluReg .adc .d
  | adcAE => exact aluReg .adc .e
  | adcAH => exact aluReg .adc .h
  | adcAL => exact aluReg .adc .l
  | adcAA => exact aluReg .adc .a
  | adcAAtHl => exact aluAtHl .adc
  | subB => exact aluReg .sub .b
  | subC => exact aluReg .sub .c
  | subD => exact aluReg .sub .d
  | subE => exact aluReg .sub .e
  | subH => exact aluReg .sub .h
  | subL => exact aluReg .sub .l
  | subA => exact aluReg .sub .a
  | subAtHl => exact aluAtHl .sub
  | sbcAB => exact aluReg .sbc .b
  | sbcAC => exact aluReg .sbc .c
  | sbcAD => exact aluReg .sbc .d
  | sbcAE => exact aluReg .sbc .e
  | sbcAH => exact aluReg .sbc .h
  | sbcAL => exact aluReg .sbc .l
  | sbcAA => exact aluReg .sbc .a
  | sbcAAtHl => exact aluAtHl .sbc
  | andB => exact aluReg .and .b
  | andC => exact aluReg .and .c
  | andD => exact aluReg .and .d
  | andE => exact aluReg .and .e
  | andH => exact aluReg .and .h
  | andL => exact aluReg .and .l
  | andA => exact aluReg .and .a
  | andAtHl => exact aluAtHl .and
  | xorB => exact aluReg .xor .b
  | xorC => exact aluReg .xor .c
  | xorD => exact aluReg .xor .d
  | xorE => exact aluReg .xor .e
  | xorH => exact aluReg .xor .h
  | xorL => exact aluReg .xor .l
  | xorA => exact aluReg .xor .a
  | xorAtHl => exact aluAtHl .xor
  | orB => exact aluReg .or .b
  | orC => exact aluReg .or .c
  | orD => exact aluReg .or .d
  | orE => exact aluReg .or .e
  | orH => exact aluReg .or .h
  | orL => exact aluReg .or .l
  | orA => exact aluReg .or .a
  | orAtHl => exact aluAtHl .or
  | cpB => exact aluReg .cp .b
  | cpC => exact aluReg .cp .c
  | cpD => exact aluReg .cp .d
  | cpE => exact aluReg .cp .e
  | cpH => exact aluReg .cp .h
  | cpL => exact aluReg .cp .l
  | cpA => exact aluReg .cp .a
  | cpAtHl => exact aluAtHl .cp
  | incB => exact incReg .b
  | incC => exact incReg .c
  | incD => exact incReg .d
  | incE => exact incReg .e
  | incH => exact incReg .h
  | incL => exact incReg .l
  | incA => exact incReg .a
  | incAtHl => exact incAtHl
  | decB => exact decReg .b
  | decC => exact decReg .c
  | decD => exact decReg .d
  | decE => exact decReg .e
  | decH => exact decReg .h
  | decL => exact decReg .l
  | decA => exact decReg .a
  | decAtHl => exact decAtHl
  | daa => exact daa
  | cpl => exact cpl
  | scf => exact scf
  | ccf => exact ccf
  | addHlBc => exact addHlPair .bc
  | addHlDe => exact addHlPair .de
  | addHlHl => exact addHlPair .hl
  | addHlSp => exact addHlPair .sp
  | incBc => exact incPair .bc
  | incDe => exact incPair .de
  | incHl => exact incPair .hl
  | incSp => exact incPair .sp
  | decBc => exact decPair .bc
  | decDe => exact decPair .de
  | decHl => exact decPair .hl
  | decSp => exact decPair .sp
  | rlca => exact rlca
  | rrca => exact rrca
  | rla => exact rla
  | rra => exact rra
  | rlcB => exact shiftRegInstr .rlc .b
  | rlcC => exact shiftRegInstr .rlc .c
  | rlcD => exact shiftRegInstr .rlc .d
  | rlcE => exact shiftRegInstr .rlc .e
  | rlcH => exact shiftRegInstr .rlc .h
  | rlcL => exact shiftRegInstr .rlc .l
  | rlcA => exact shiftRegInstr .rlc .a
  | rlcAtHl => exact shiftAtHlInstr .rlc
  | rrcB => exact shiftRegInstr .rrc .b
  | rrcC => exact shiftRegInstr .rrc .c
  | rrcD => exact shiftRegInstr .rrc .d
  | rrcE => exact shiftRegInstr .rrc .e
  | rrcH => exact shiftRegInstr .rrc .h
  | rrcL => exact shiftRegInstr .rrc .l
  | rrcA => exact shiftRegInstr .rrc .a
  | rrcAtHl => exact shiftAtHlInstr .rrc
  | rlB => exact shiftRegInstr .rl .b
  | rlC => exact shiftRegInstr .rl .c
  | rlD => exact shiftRegInstr .rl .d
  | rlE => exact shiftRegInstr .rl .e
  | rlH => exact shiftRegInstr .rl .h
  | rlL => exact shiftRegInstr .rl .l
  | rlA => exact shiftRegInstr .rl .a
  | rlAtHl => exact shiftAtHlInstr .rl
  | rrB => exact shiftRegInstr .rr .b
  | rrC => exact shiftRegInstr .rr .c
  | rrD => exact shiftRegInstr .rr .d
  | rrE => exact shiftRegInstr .rr .e
  | rrH => exact shiftRegInstr .rr .h
  | rrL => exact shiftRegInstr .rr .l
  | rrA => exact shiftRegInstr .rr .a
  | rrAtHl => exact shiftAtHlInstr .rr
  | slaB => exact shiftRegInstr .sla .b
  | slaC => exact shiftRegInstr .sla .c
  | slaD => exact shiftRegInstr .sla .d
  | slaE => exact shiftRegInstr .sla .e
  | slaH => exact shiftRegInstr .sla .h
  | slaL => exact shiftRegInstr .sla .l
  | slaA => exact shiftRegInstr .sla .a
  | slaAtHl => exact shiftAtHlInstr .sla
  | sraB => exact shiftRegInstr .sra .b
  | sraC => exact shiftRegInstr .sra .c
  | sraD => exact shiftRegInstr .sra .d
  | sraE => exact shiftRegInstr .sra .e
  | sraH => exact shiftRegInstr .sra .h
  | sraL => exact shiftRegInstr .sra .l
  | sraA => exact shiftRegInstr .sra .a
  | sraAtHl => exact shiftAtHlInstr .sra
  | swapB => exact shiftRegInstr .swap .b
  | swapC => exact shiftRegInstr .swap .c
  | swapD => exact shiftRegInstr .swap .d
  | swapE => exact shiftRegInstr .swap .e
  | swapH => exact shiftRegInstr .swap .h
  | swapL => exact shiftRegInstr .swap .l
  | swapA => exact shiftRegInstr .swap .a
  | swapAtHl => exact shiftAtHlInstr .swap
  | srlB => exact shiftRegInstr .srl .b
  | srlC => exact shiftRegInstr .srl .c
  | srlD => exact shiftRegInstr .srl .d
  | srlE => exact shiftRegInstr .srl .e
  | srlH => exact shiftRegInstr .srl .h
  | srlL => exact shiftRegInstr .srl .l
  | srlA => exact shiftRegInstr .srl .a
  | srlAtHl => exact shiftAtHlInstr .srl
  | bit0B => exact bitRegInstr .b0 .b
  | bit0C => exact bitRegInstr .b0 .c
  | bit0D => exact bitRegInstr .b0 .d
  | bit0E => exact bitRegInstr .b0 .e
  | bit0H => exact bitRegInstr .b0 .h
  | bit0L => exact bitRegInstr .b0 .l
  | bit0A => exact bitRegInstr .b0 .a
  | bit1B => exact bitRegInstr .b1 .b
  | bit1C => exact bitRegInstr .b1 .c
  | bit1D => exact bitRegInstr .b1 .d
  | bit1E => exact bitRegInstr .b1 .e
  | bit1H => exact bitRegInstr .b1 .h
  | bit1L => exact bitRegInstr .b1 .l
  | bit1A => exact bitRegInstr .b1 .a
  | bit2B => exact bitRegInstr .b2 .b
  | bit2C => exact bitRegInstr .b2 .c
  | bit2D => exact bitRegInstr .b2 .d
  | bit2E => exact bitRegInstr .b2 .e
  | bit2H => exact bitRegInstr .b2 .h
  | bit2L => exact bitRegInstr .b2 .l
  | bit2A => exact bitRegInstr .b2 .a
  | bit3B => exact bitRegInstr .b3 .b
  | bit3C => exact bitRegInstr .b3 .c
  | bit3D => exact bitRegInstr .b3 .d
  | bit3E => exact bitRegInstr .b3 .e
  | bit3H => exact bitRegInstr .b3 .h
  | bit3L => exact bitRegInstr .b3 .l
  | bit3A => exact bitRegInstr .b3 .a
  | bit4B => exact bitRegInstr .b4 .b
  | bit4C => exact bitRegInstr .b4 .c
  | bit4D => exact bitRegInstr .b4 .d
  | bit4E => exact bitRegInstr .b4 .e
  | bit4H => exact bitRegInstr .b4 .h
  | bit4L => exact bitRegInstr .b4 .l
  | bit4A => exact bitRegInstr .b4 .a
  | bit5B => exact bitRegInstr .b5 .b
  | bit5C => exact bitRegInstr .b5 .c
  | bit5D => exact bitRegInstr .b5 .d
  | bit5E => exact bitRegInstr .b5 .e
  | bit5H => exact bitRegInstr .b5 .h
  | bit5L => exact bitRegInstr .b5 .l
  | bit5A => exact bitRegInstr .b5 .a
  | bit6B => exact bitRegInstr .b6 .b
  | bit6C => exact bitRegInstr .b6 .c
  | bit6D => exact bitRegInstr .b6 .d
  | bit6E => exact bitRegInstr .b6 .e
  | bit6H => exact bitRegInstr .b6 .h
  | bit6L => exact bitRegInstr .b6 .l
  | bit6A => exact bitRegInstr .b6 .a
  | bit7B => exact bitRegInstr .b7 .b
  | bit7C => exact bitRegInstr .b7 .c
  | bit7D => exact bitRegInstr .b7 .d
  | bit7E => exact bitRegInstr .b7 .e
  | bit7H => exact bitRegInstr .b7 .h
  | bit7L => exact bitRegInstr .b7 .l
  | bit7A => exact bitRegInstr .b7 .a
  | bit0AtHl => exact bitAtHlInstr .b0
  | bit1AtHl => exact bitAtHlInstr .b1
  | bit2AtHl => exact bitAtHlInstr .b2
  | bit3AtHl => exact bitAtHlInstr .b3
  | bit4AtHl => exact bitAtHlInstr .b4
  | bit5AtHl => exact bitAtHlInstr .b5
  | bit6AtHl => exact bitAtHlInstr .b6
  | bit7AtHl => exact bitAtHlInstr .b7
  | res0B => exact resRegInstr .b0 .b
  | res0C => exact resRegInstr .b0 .c
  | res0D => exact resRegInstr .b0 .d
  | res0E => exact resRegInstr .b0 .e
  | res0H => exact resRegInstr .b0 .h
  | res0L => exact resRegInstr .b0 .l
  | res0A => exact resRegInstr .b0 .a
  | res1B => exact resRegInstr .b1 .b
  | res1C => exact resRegInstr .b1 .c
  | res1D => exact resRegInstr .b1 .d
  | res1E => exact resRegInstr .b1 .e
  | res1H => exact resRegInstr .b1 .h
  | res1L => exact resRegInstr .b1 .l
  | res1A => exact resRegInstr .b1 .a
  | res2B => exact resRegInstr .b2 .b
  | res2C => exact resRegInstr .b2 .c
  | res2D => exact resRegInstr .b2 .d
  | res2E => exact resRegInstr .b2 .e
  | res2H => exact resRegInstr .b2 .h
  | res2L => exact resRegInstr .b2 .l
  | res2A => exact resRegInstr .b2 .a
  | res3B => exact resRegInstr .b3 .b
  | res3C => exact resRegInstr .b3 .c
  | res3D => exact resRegInstr .b3 .d
  | res3E => exact resRegInstr .b3 .e
  | res3H => exact resRegInstr .b3 .h
  | res3L => exact resRegInstr .b3 .l
  | res3A => exact resRegInstr .b3 .a
  | res4B => exact resRegInstr .b4 .b
  | res4C => exact resRegInstr .b4 .c
  | res4D => exact resRegInstr .b4 .d
  | res4E => exact resRegInstr .b4 .e
  | res4H => exact resRegInstr .b4 .h
  | res4L => exact resRegInstr .b4 .l
  | res4A => exact resRegInstr .b4 .a
  | res5B => exact resRegInstr .b5 .b
  | res5C => exact resRegInstr .b5 .c
  | res5D => exact resRegInstr .b5 .d
  | res5E => exact resRegInstr .b5 .e
  | res5H => exact resRegInstr .b5 .h
  | res5L => exact resRegInstr .b5 .l
  | res5A => exact resRegInstr .b5 .a
  | res6B => exact resRegInstr .b6 .b
  | res6C => exact resRegInstr .b6 .c
  | res6D => exact resRegInstr .b6 .d
  | res6E => exact resRegInstr .b6 .e
  | res6H => exact resRegInstr .b6 .h
  | res6L => exact resRegInstr .b6 .l
  | res6A => exact resRegInstr .b6 .a
  | res7B => exact resRegInstr .b7 .b
  | res7C => exact resRegInstr .b7 .c
  | res7D => exact resRegInstr .b7 .d
  | res7E => exact resRegInstr .b7 .e
  | res7H => exact resRegInstr .b7 .h
  | res7L => exact resRegInstr .b7 .l
  | res7A => exact resRegInstr .b7 .a
  | res0AtHl => exact resAtHlInstr .b0
  | res1AtHl => exact resAtHlInstr .b1
  | res2AtHl => exact resAtHlInstr .b2
  | res3AtHl => exact resAtHlInstr .b3
  | res4AtHl => exact resAtHlInstr .b4
  | res5AtHl => exact resAtHlInstr .b5
  | res6AtHl => exact resAtHlInstr .b6
  | res7AtHl => exact resAtHlInstr .b7
  | set0B => exact setRegInstr .b0 .b
  | set0C => exact setRegInstr .b0 .c
  | set0D => exact setRegInstr .b0 .d
  | set0E => exact setRegInstr .b0 .e
  | set0H => exact setRegInstr .b0 .h
  | set0L => exact setRegInstr .b0 .l
  | set0A => exact setRegInstr .b0 .a
  | set1B => exact setRegInstr .b1 .b
  | set1C => exact setRegInstr .b1 .c
  | set1D => exact setRegInstr .b1 .d
  | set1E => exact setRegInstr .b1 .e
  | set1H => exact setRegInstr .b1 .h
  | set1L => exact setRegInstr .b1 .l
  | set1A => exact setRegInstr .b1 .a
  | set2B => exact setRegInstr .b2 .b
  | set2C => exact setRegInstr .b2 .c
  | set2D => exact setRegInstr .b2 .d
  | set2E => exact setRegInstr .b2 .e
  | set2H => exact setRegInstr .b2 .h
  | set2L => exact setRegInstr .b2 .l
  | set2A => exact setRegInstr .b2 .a
  | set3B => exact setRegInstr .b3 .b
  | set3C => exact setRegInstr .b3 .c
  | set3D => exact setRegInstr .b3 .d
  | set3E => exact setRegInstr .b3 .e
  | set3H => exact setRegInstr .b3 .h
  | set3L => exact setRegInstr .b3 .l
  | set3A => exact setRegInstr .b3 .a
  | set4B => exact setRegInstr .b4 .b
  | set4C => exact setRegInstr .b4 .c
  | set4D => exact setRegInstr .b4 .d
  | set4E => exact setRegInstr .b4 .e
  | set4H => exact setRegInstr .b4 .h
  | set4L => exact setRegInstr .b4 .l
  | set4A => exact setRegInstr .b4 .a
  | set5B => exact setRegInstr .b5 .b
  | set5C => exact setRegInstr .b5 .c
  | set5D => exact setRegInstr .b5 .d
  | set5E => exact setRegInstr .b5 .e
  | set5H => exact setRegInstr .b5 .h
  | set5L => exact setRegInstr .b5 .l
  | set5A => exact setRegInstr .b5 .a
  | set6B => exact setRegInstr .b6 .b
  | set6C => exact setRegInstr .b6 .c
  | set6D => exact setRegInstr .b6 .d
  | set6E => exact setRegInstr .b6 .e
  | set6H => exact setRegInstr .b6 .h
  | set6L => exact setRegInstr .b6 .l
  | set6A => exact setRegInstr .b6 .a
  | set7B => exact setRegInstr .b7 .b
  | set7C => exact setRegInstr .b7 .c
  | set7D => exact setRegInstr .b7 .d
  | set7E => exact setRegInstr .b7 .e
  | set7H => exact setRegInstr .b7 .h
  | set7L => exact setRegInstr .b7 .l
  | set7A => exact setRegInstr .b7 .a
  | set0AtHl => exact setAtHlInstr .b0
  | set1AtHl => exact setAtHlInstr .b1
  | set2AtHl => exact setAtHlInstr .b2
  | set3AtHl => exact setAtHlInstr .b3
  | set4AtHl => exact setAtHlInstr .b4
  | set5AtHl => exact setAtHlInstr .b5
  | set6AtHl => exact setAtHlInstr .b6
  | set7AtHl => exact setAtHlInstr .b7
  | ldBB => exact ldRegReg .b .b
  | ldBC => exact ldRegReg .b .c
  | ldBD => exact ldRegReg .b .d
  | ldBE => exact ldRegReg .b .e
  | ldBH => exact ldRegReg .b .h
  | ldBL => exact ldRegReg .b .l
  | ldBA => exact ldRegReg .b .a
  | ldCB => exact ldRegReg .c .b
  | ldCC => exact ldRegReg .c .c
  | ldCD => exact ldRegReg .c .d
  | ldCE => exact ldRegReg .c .e
  | ldCH => exact ldRegReg .c .h
  | ldCL => exact ldRegReg .c .l
  | ldCA => exact ldRegReg .c .a
  | ldDB => exact ldRegReg .d .b
  | ldDC => exact ldRegReg .d .c
  | ldDD => exact ldRegReg .d .d
  | ldDE => exact ldRegReg .d .e
  | ldDH => exact ldRegReg .d .h
  | ldDL => exact ldRegReg .d .l
  | ldDA => exact ldRegReg .d .a
  | ldEB => exact ldRegReg .e .b
  | ldEC => exact ldRegReg .e .c
  | ldED => exact ldRegReg .e .d
  | ldEE => exact ldRegReg .e .e
  | ldEH => exact ldRegReg .e .h
  | ldEL => exact ldRegReg .e .l
  | ldEA => exact ldRegReg .e .a
  | ldHB => exact ldRegReg .h .b
  | ldHC => exact ldRegReg .h .c
  | ldHD => exact ldRegReg .h .d
  | ldHE => exact ldRegReg .h .e
  | ldHH => exact ldRegReg .h .h
  | ldHL => exact ldRegReg .h .l
  | ldHA => exact ldRegReg .h .a
  | ldLB => exact ldRegReg .l .b
  | ldLC => exact ldRegReg .l .c
  | ldLD => exact ldRegReg .l .d
  | ldLE => exact ldRegReg .l .e
  | ldLH => exact ldRegReg .l .h
  | ldLL => exact ldRegReg .l .l
  | ldLA => exact ldRegReg .l .a
  | ldAB => exact ldRegReg .a .b
  | ldAC => exact ldRegReg .a .c
  | ldAD => exact ldRegReg .a .d
  | ldAE => exact ldRegReg .a .e
  | ldAH => exact ldRegReg .a .h
  | ldAL => exact ldRegReg .a .l
  | ldAA => exact ldRegReg .a .a
  | ldBAtHl => exact ldRegAtHl .b
  | ldCAtHl => exact ldRegAtHl .c
  | ldDAtHl => exact ldRegAtHl .d
  | ldEAtHl => exact ldRegAtHl .e
  | ldHAtHl => exact ldRegAtHl .h
  | ldLAtHl => exact ldRegAtHl .l
  | ldAAtHl => exact ldRegAtHl .a
  | ldAtHlB => exact ldAtHlReg .b
  | ldAtHlC => exact ldAtHlReg .c
  | ldAtHlD => exact ldAtHlReg .d
  | ldAtHlE => exact ldAtHlReg .e
  | ldAtHlH => exact ldAtHlReg .h
  | ldAtHlL => exact ldAtHlReg .l
  | ldAtHlA => exact ldAtHlReg .a
  | ldAAtBc => exact ldAAtBc
  | ldAAtDe => exact ldAAtDe
  | ldAtBcA => exact ldAtBcA
  | ldAtDeA => exact ldAtDeA
  | ldhAAtC => exact ldhAAtC
  | ldhAtCA => exact ldhAtCA
  | ldAAtHld => exact ldAAtHld
  | ldAtHldA => exact ldAtHldA
  | ldAAtHli => exact ldAAtHli
  | ldAtHliA => exact ldAtHliA
  | ldSpHl => exact ldSpHl
  | pushBc => exact pushPair .bc
  | pushDe => exact pushPair .de
  | pushHl => exact pushPair .hl
  | pushAf => exact pushPair .af
  | popBc => exact popPair .bc
  | popDe => exact popPair .de
  | popHl => exact popPair .hl
  | popAf => exact popPair .af
  | jpHl => exact jpHl
  | ret => exact ret
  | retNz => exact retCond .nz
  | retZ => exact retCond .z
  | retNc => exact retCond .nc
  | retC => exact retCond .c
  | reti => exact reti
  | rst00 => exact rstInstr .t00
  | rst08 => exact rstInstr .t08
  | rst10 => exact rstInstr .t10
  | rst18 => exact rstInstr .t18
  | rst20 => exact rstInstr .t20
  | rst28 => exact rstInstr .t28
  | rst30 => exact rstInstr .t30
  | rst38 => exact rstInstr .t38
  | nop => exact nop
  | halt => exact halt
  | di => exact di
  | ei => exact ei
  | illegalD3 => exact illegalInstr .xD3
  | illegalDB => exact illegalInstr .xDB
  | illegalDD => exact illegalInstr .xDD
  | illegalE3 => exact illegalInstr .xE3
  | illegalE4 => exact illegalInstr .xE4
  | illegalEB => exact illegalInstr .xEB
  | illegalEC => exact illegalInstr .xEC
  | illegalED => exact illegalInstr .xED
  | illegalF4 => exact illegalInstr .xF4
  | illegalFC => exact illegalInstr .xFC
  | illegalFD => exact illegalInstr .xFD

end Sys2Proof
end

