-- ==== Sys2Proof/Laws/Decode.lean ====
section
/-! SUPPORT. The decoder on the encoder's four shapes of words, and the lengths. -/

namespace Sys2Proof

/-- A claim about every byte is a claim about 256 numbers. -/
theorem byte_cases {P : Byte → Prop} (h : ∀ n < 256, P (BitVec.ofNat 8 n)) (b : Byte) : P b := by
  have hb := h b.toNat b.isLt
  rwa [BitVec.ofNat_toNat, BitVec.setWidth_eq] at hb

/-- Every instruction has 1, 2 or 3 bytes (R59). -/
theorem instrLength_cases (op : Byte) : instrLength op = 1 ∨ instrLength op = 2 ∨ instrLength op = 3 := by
  unfold instrLength; split
  · exact .inr (.inr rfl)
  · split
    · exact .inr (.inl rfl)
    · exact .inl rfl

theorem decode_opOnly {op : Byte} (rest : List Byte) (h : instrLength op = 1) :
    decode (opOnly op ++ rest) = .ok (decodeBytes op 0 0, rest) := by
  simp [opOnly, decode, h]

theorem decode_opByte {op : Byte} (n : Byte) (rest : List Byte) (h : instrLength op = 2) :
    decode (opByte op n ++ rest) = .ok (decodeBytes op n 0, rest) := by
  simp [opByte, decode, h]

theorem decode_opWord {op : Byte} (n : Word) (rest : List Byte) (h : instrLength op = 3) :
    decode (opWord op n ++ rest) = .ok (decodeBytes op (lowByte n) (highByte n), rest) := by
  simp [opWord, decode, h]

/-- Behind the prefix the second byte is the secondary opcode (R46, R57). -/
theorem decode_cbPair (k : Byte) (rest : List Byte) : decode (cbPair k ++ rest) = .ok (decodeSecondary k, rest) := rfl

/-- The bytes a decoder takes are a prefix of the ones it is given. -/
theorem decode_length {bytes rest : List Byte} {i : Instr} (h : decode bytes = .ok (i, rest)) :
    ∃ op tail, bytes = op :: tail ∧ bytes.length = instrLength op + rest.length := by
  cases bytes with
  | nil => cases h
  | cons op tail =>
    refine ⟨op, tail, rfl, ?_⟩
    unfold decode at h
    dsimp only at h
    rcases instrLength_cases op with hl | hl | hl <;> rw [hl] at h ⊢
    · rw [if_pos rfl] at h; cases h; simp; omega
    · rw [if_neg (by omega), if_pos rfl] at h
      split at h
      · cases h; simp; omega
      · cases h
    · rw [if_neg (by omega), if_neg (by omega)] at h
      split at h
      · cases h; simp; omega
      · cases h

end Sys2Proof
end

