-- ==== Sys2Proof/Laws/Memory.lean ====
section
/-! SUPPORT. The memory operations: a write is read back and leaves every other address alone, in every list; it keeps the
canonical form; and the form is canonical: memories that read alike are one list. -/

namespace Sys2Proof.Machine

@[simp] theorem Memory.read_nil (a : Nat) : Memory.read [] a = unlistedByte := rfl

@[simp] theorem Memory.read_cons (k : Nat) (w : Byte) (m : Memory) (a : Nat) :
    Memory.read ((k, w) :: m) a = if k = a then w else Memory.read m a := rfl

/-! ### Reads after a write -/

theorem Memory.read_erase (m : Memory) (a x : Nat) :
    (m.erase a).read x = if x = a then unlistedByte else m.read x := by
  induction m with
  | nil => simp [Memory.erase]
  | cons cell rest ih =>
    obtain ⟨k, w⟩ := cell
    unfold Memory.erase
    by_cases hk : k = a
    · rw [if_pos hk, ih, Memory.read_cons]
      by_cases hx : x = a
      · simp [hx]
      · rw [if_neg hx, if_neg hx, if_neg (by omega)]
    · rw [if_neg hk, Memory.read_cons, Memory.read_cons, ih]
      by_cases hx : x = a
      · rw [if_pos hx, if_pos hx, if_neg (by omega)]
      · rw [if_neg hx, if_neg hx]

/-- A cell put into a memory that does not list its address is the one read there. -/
theorem Memory.read_insert (m : Memory) (a : Nat) (v : Byte) (x : Nat) (h : ∀ c ∈ m, c.1 ≠ a) :
    (m.insert a v).read x = if x = a then v else m.read x := by
  induction m with
  | nil => simp [Memory.insert, eq_comm]
  | cons cell rest ih =>
    obtain ⟨k, w⟩ := cell
    have hk : k ≠ a := h (k, w) (by simp)
    have ih := ih fun c hc => h c (List.mem_cons_of_mem _ hc)
    unfold Memory.insert
    split
    · rw [Memory.read_cons]
      by_cases hx : x = a
      · simp [hx]
      · rw [if_neg hx, if_neg (Ne.symm hx)]
    · rw [Memory.read_cons, Memory.read_cons, ih]
      by_cases hx : x = a
      · rw [if_pos hx, if_pos hx, if_neg (by omega)]
      · rw [if_neg hx, if_neg hx]

/-- An erased address is not listed. -/
theorem Memory.not_mem_erase (m : Memory) (a : Nat) : ∀ c ∈ m.erase a, c.1 ≠ a := by
  induction m with
  | nil => simp [Memory.erase]
  | cons cell rest ih =>
    unfold Memory.erase
    split
    · exact ih
    · rintro c (_ | ⟨_, hc⟩)
      · assumption
      · exact ih c hc

/-- A read after a write gives the byte written at the address, and at every other address what it gave before
(R33). -/
theorem Memory.read_write (m : Memory) (a : Nat) (v : Byte) (x : Nat) :
    (m.write a v).read x = if x = a then v else m.read x := by
  unfold Memory.write
  split
  · rw [Memory.read_erase, ‹v = _›]
  · rw [Memory.read_insert _ _ _ _ (Memory.not_mem_erase m a), Memory.read_erase]
    split <;> rfl

/-! ### The canonical form -/

theorem Memory.wfFrom_cons {lo k : Nat} {w : Byte} {m : Memory} : Memory.wfFrom lo ((k, w) :: m) = true ↔
    lo ≤ k ∧ k < 65536 ∧ w ≠ unlistedByte ∧ Memory.wfFrom (k + 1) m = true := by
  simp [Memory.wfFrom, and_assoc]

theorem Memory.wfFrom_mono {m : Memory} {lo lo' : Nat} (h : Memory.wfFrom lo m = true) (hl : lo' ≤ lo) :
    Memory.wfFrom lo' m = true := by
  cases m with
  | nil => rfl
  | cons cell rest =>
    have h := Memory.wfFrom_cons.mp h
    exact Memory.wfFrom_cons.mpr ⟨by omega, h.2⟩

/-- Below the addresses it lists a memory reads as unlisted. -/
theorem Memory.read_below {m : Memory} {lo a : Nat} (h : Memory.wfFrom lo m = true) (ha : a < lo) :
    m.read a = unlistedByte := by
  induction m generalizing lo with
  | nil => rfl
  | cons cell rest ih =>
    have h := Memory.wfFrom_cons.mp h
    rw [Memory.read_cons, if_neg (by omega), ih h.2.2.2 (by omega)]

theorem Memory.wfFrom_erase {m : Memory} {lo : Nat} (a : Nat) (h : Memory.wfFrom lo m = true) :
    Memory.wfFrom lo (m.erase a) = true := by
  induction m generalizing lo with
  | nil => rfl
  | cons cell rest ih =>
    have h := Memory.wfFrom_cons.mp h
    unfold Memory.erase
    split
    · exact Memory.wfFrom_mono (ih h.2.2.2) (by omega)
    · exact Memory.wfFrom_cons.mpr ⟨h.1, h.2.1, h.2.2.1, ih h.2.2.2⟩

theorem Memory.wfFrom_insert {m : Memory} {lo a : Nat} {v : Byte} (h : Memory.wfFrom lo m = true) (hlo : lo ≤ a)
    (ha : a < 65536) (hv : v ≠ unlistedByte) (hm : ∀ c ∈ m, c.1 ≠ a) : Memory.wfFrom lo (m.insert a v) = true := by
  induction m generalizing lo with
  | nil => exact Memory.wfFrom_cons.mpr ⟨hlo, ha, hv, rfl⟩
  | cons cell rest ih =>
    obtain ⟨k, w⟩ := cell
    have h := Memory.wfFrom_cons.mp h
    have hk : k ≠ a := hm (k, w) (by simp)
    unfold Memory.insert
    split
    · exact Memory.wfFrom_cons.mpr ⟨hlo, ha, hv, Memory.wfFrom_cons.mpr ⟨by omega, h.2⟩⟩
    · exact Memory.wfFrom_cons.mpr ⟨h.1, h.2.1, h.2.2.1,
        ih h.2.2.2 (by omega) fun c hc => hm c (List.mem_cons_of_mem _ hc)⟩

/-- A write to one of the 65536 addresses keeps the canonical form. -/
theorem Memory.wf_write {m : Memory} {a : Nat} (v : Byte) (h : m.wf = true) (ha : a < 65536) : (m.write a v).wf = true := by
  unfold Memory.write
  split
  · exact Memory.wfFrom_erase a h
  · exact Memory.wfFrom_insert (Memory.wfFrom_erase a h) (Nat.zero_le a) ha ‹_› (Memory.not_mem_erase m a)

/-- The form is canonical: two memories in it that read alike are one list. -/
theorem Memory.wfFrom_ext {m n : Memory} {lo : Nat} (hm : Memory.wfFrom lo m = true) (hn : Memory.wfFrom lo n = true)
    (h : ∀ a, m.read a = n.read a) : m = n := by
  induction m generalizing n lo with
  | nil =>
    cases n with
    | nil => rfl
    | cons cell rest =>
      obtain ⟨k, w⟩ := cell
      exact absurd (by simpa using (h k).symm) (Memory.wfFrom_cons.mp hn).2.2.1
  | cons cell rest ih =>
    obtain ⟨k, w⟩ := cell
    have hm' := Memory.wfFrom_cons.mp hm
    cases n with
    | nil => exact absurd (by simpa using h k) hm'.2.2.1
    | cons cell' rest' =>
      obtain ⟨k', w'⟩ := cell'
      have hn' := Memory.wfFrom_cons.mp hn
      have hk : k = k' := by
        rcases Nat.lt_trichotomy k k' with hlt | heq | hgt
        · have := h k
          rw [Memory.read_cons, if_pos rfl, Memory.read_below (lo := k') (Memory.wfFrom_cons.mpr ⟨Nat.le_refl _, hn'.2⟩) hlt] at this
          exact absurd this hm'.2.2.1
        · exact heq
        · have := h k'
          rw [Memory.read_below (lo := k) (Memory.wfFrom_cons.mpr ⟨Nat.le_refl _, hm'.2⟩) hgt, Memory.read_cons, if_pos rfl] at this
          exact absurd this.symm hn'.2.2.1
      subst hk
      have hw : w = w' := by simpa using h k
      subst hw
      have : rest = rest' := by
        refine ih hm'.2.2.2 hn'.2.2.2 fun a => ?_
        by_cases ha : a < k + 1
        · rw [Memory.read_below hm'.2.2.2 ha, Memory.read_below hn'.2.2.2 ha]
        · have := h a
          rwa [Memory.read_cons, Memory.read_cons, if_neg (by omega), if_neg (by omega)] at this
      rw [this]

end Sys2Proof.Machine
end

