-- ==== Sys2Proof/Laws/State.lean ====
section
/-! SUPPORT. What every update of Machine/Ops.lean leaves in every field of the state: one lemma per field and update, true by
rfl, so that no later proof unfolds a record update. -/

namespace Sys2Proof.Machine

variable (s : State)

/-! ### `setBc` (R14) -/

@[simp] theorem State.setBc_a (v : Word) : (s.setBc v).a = s.a := rfl
@[simp] theorem State.setBc_f (v : Word) : (s.setBc v).f = s.f := rfl
@[simp] theorem State.setBc_b (v : Word) : (s.setBc v).b = highByte v := rfl
@[simp] theorem State.setBc_c (v : Word) : (s.setBc v).c = lowByte v := rfl
@[simp] theorem State.setBc_d (v : Word) : (s.setBc v).d = s.d := rfl
@[simp] theorem State.setBc_e (v : Word) : (s.setBc v).e = s.e := rfl
@[simp] theorem State.setBc_h (v : Word) : (s.setBc v).h = s.h := rfl
@[simp] theorem State.setBc_l (v : Word) : (s.setBc v).l = s.l := rfl
@[simp] theorem State.setBc_sp (v : Word) : (s.setBc v).sp = s.sp := rfl
@[simp] theorem State.setBc_pc (v : Word) : (s.setBc v).pc = s.pc := rfl
@[simp] theorem State.setBc_ime (v : Word) : (s.setBc v).ime = s.ime := rfl
@[simp] theorem State.setBc_mode (v : Word) : (s.setBc v).mode = s.mode := rfl
@[simp] theorem State.setBc_eiPending (v : Word) : (s.setBc v).eiPending = s.eiPending := rfl
@[simp] theorem State.setBc_haltBug (v : Word) : (s.setBc v).haltBug = s.haltBug := rfl
@[simp] theorem State.setBc_fault (v : Word) : (s.setBc v).fault = s.fault := rfl
@[simp] theorem State.setBc_mem (v : Word) : (s.setBc v).mem = s.mem := rfl
@[simp] theorem State.setBc_cycles (v : Word) : (s.setBc v).cycles = s.cycles := rfl
@[simp] theorem State.setBc_bus (v : Word) : (s.setBc v).bus = s.bus := rfl
@[simp] theorem State.setBc_config (v : Word) : (s.setBc v).config = s.config := rfl

/-! ### `setDe` (R14) -/

@[simp] theorem State.setDe_a (v : Word) : (s.setDe v).a = s.a := rfl
@[simp] theorem State.setDe_f (v : Word) : (s.setDe v).f = s.f := rfl
@[simp] theorem State.setDe_b (v : Word) : (s.setDe v).b = s.b := rfl
@[simp] theorem State.setDe_c (v : Word) : (s.setDe v).c = s.c := rfl
@[simp] theorem State.setDe_d (v : Word) : (s.setDe v).d = highByte v := rfl
@[simp] theorem State.setDe_e (v : Word) : (s.setDe v).e = lowByte v := rfl
@[simp] theorem State.setDe_h (v : Word) : (s.setDe v).h = s.h := rfl
@[simp] theorem State.setDe_l (v : Word) : (s.setDe v).l = s.l := rfl
@[simp] theorem State.setDe_sp (v : Word) : (s.setDe v).sp = s.sp := rfl
@[simp] theorem State.setDe_pc (v : Word) : (s.setDe v).pc = s.pc := rfl
@[simp] theorem State.setDe_ime (v : Word) : (s.setDe v).ime = s.ime := rfl
@[simp] theorem State.setDe_mode (v : Word) : (s.setDe v).mode = s.mode := rfl
@[simp] theorem State.setDe_eiPending (v : Word) : (s.setDe v).eiPending = s.eiPending := rfl
@[simp] theorem State.setDe_haltBug (v : Word) : (s.setDe v).haltBug = s.haltBug := rfl
@[simp] theorem State.setDe_fault (v : Word) : (s.setDe v).fault = s.fault := rfl
@[simp] theorem State.setDe_mem (v : Word) : (s.setDe v).mem = s.mem := rfl
@[simp] theorem State.setDe_cycles (v : Word) : (s.setDe v).cycles = s.cycles := rfl
@[simp] theorem State.setDe_bus (v : Word) : (s.setDe v).bus = s.bus := rfl
@[simp] theorem State.setDe_config (v : Word) : (s.setDe v).config = s.config := rfl

/-! ### `setHl` (R14) -/

@[simp] theorem State.setHl_a (v : Word) : (s.setHl v).a = s.a := rfl
@[simp] theorem State.setHl_f (v : Word) : (s.setHl v).f = s.f := rfl
@[simp] theorem State.setHl_b (v : Word) : (s.setHl v).b = s.b := rfl
@[simp] theorem State.setHl_c (v : Word) : (s.setHl v).c = s.c := rfl
@[simp] theorem State.setHl_d (v : Word) : (s.setHl v).d = s.d := rfl
@[simp] theorem State.setHl_e (v : Word) : (s.setHl v).e = s.e := rfl
@[simp] theorem State.setHl_h (v : Word) : (s.setHl v).h = highByte v := rfl
@[simp] theorem State.setHl_l (v : Word) : (s.setHl v).l = lowByte v := rfl
@[simp] theorem State.setHl_sp (v : Word) : (s.setHl v).sp = s.sp := rfl
@[simp] theorem State.setHl_pc (v : Word) : (s.setHl v).pc = s.pc := rfl
@[simp] theorem State.setHl_ime (v : Word) : (s.setHl v).ime = s.ime := rfl
@[simp] theorem State.setHl_mode (v : Word) : (s.setHl v).mode = s.mode := rfl
@[simp] theorem State.setHl_eiPending (v : Word) : (s.setHl v).eiPending = s.eiPending := rfl
@[simp] theorem State.setHl_haltBug (v : Word) : (s.setHl v).haltBug = s.haltBug := rfl
@[simp] theorem State.setHl_fault (v : Word) : (s.setHl v).fault = s.fault := rfl
@[simp] theorem State.setHl_mem (v : Word) : (s.setHl v).mem = s.mem := rfl
@[simp] theorem State.setHl_cycles (v : Word) : (s.setHl v).cycles = s.cycles := rfl
@[simp] theorem State.setHl_bus (v : Word) : (s.setHl v).bus = s.bus := rfl
@[simp] theorem State.setHl_config (v : Word) : (s.setHl v).config = s.config := rfl

/-! ### `setAf` (R17, R167) -/

@[simp] theorem State.setAf_a (v : Word) : (s.setAf v).a = highByte v := rfl
@[simp] theorem State.setAf_f (v : Word) : (s.setAf v).f = lowByte v &&& 0xF0#8 := rfl
@[simp] theorem State.setAf_b (v : Word) : (s.setAf v).b = s.b := rfl
@[simp] theorem State.setAf_c (v : Word) : (s.setAf v).c = s.c := rfl
@[simp] theorem State.setAf_d (v : Word) : (s.setAf v).d = s.d := rfl
@[simp] theorem State.setAf_e (v : Word) : (s.setAf v).e = s.e := rfl
@[simp] theorem State.setAf_h (v : Word) : (s.setAf v).h = s.h := rfl
@[simp] theorem State.setAf_l (v : Word) : (s.setAf v).l = s.l := rfl
@[simp] theorem State.setAf_sp (v : Word) : (s.setAf v).sp = s.sp := rfl
@[simp] theorem State.setAf_pc (v : Word) : (s.setAf v).pc = s.pc := rfl
@[simp] theorem State.setAf_ime (v : Word) : (s.setAf v).ime = s.ime := rfl
@[simp] theorem State.setAf_mode (v : Word) : (s.setAf v).mode = s.mode := rfl
@[simp] theorem State.setAf_eiPending (v : Word) : (s.setAf v).eiPending = s.eiPending := rfl
@[simp] theorem State.setAf_haltBug (v : Word) : (s.setAf v).haltBug = s.haltBug := rfl
@[simp] theorem State.setAf_fault (v : Word) : (s.setAf v).fault = s.fault := rfl
@[simp] theorem State.setAf_mem (v : Word) : (s.setAf v).mem = s.mem := rfl
@[simp] theorem State.setAf_cycles (v : Word) : (s.setAf v).cycles = s.cycles := rfl
@[simp] theorem State.setAf_bus (v : Word) : (s.setAf v).bus = s.bus := rfl
@[simp] theorem State.setAf_config (v : Word) : (s.setAf v).config = s.config := rfl

/-! ### `setFlag` (R16) -/

@[simp] theorem State.setFlag_a (k : Flag) (b : Bool) : (s.setFlag k b).a = s.a := rfl
@[simp] theorem State.setFlag_f (k : Flag) (b : Bool) : (s.setFlag k b).f = putBit s.f k.bit b := rfl
@[simp] theorem State.setFlag_b (k : Flag) (b : Bool) : (s.setFlag k b).b = s.b := rfl
@[simp] theorem State.setFlag_c (k : Flag) (b : Bool) : (s.setFlag k b).c = s.c := rfl
@[simp] theorem State.setFlag_d (k : Flag) (b : Bool) : (s.setFlag k b).d = s.d := rfl
@[simp] theorem State.setFlag_e (k : Flag) (b : Bool) : (s.setFlag k b).e = s.e := rfl
@[simp] theorem State.setFlag_h (k : Flag) (b : Bool) : (s.setFlag k b).h = s.h := rfl
@[simp] theorem State.setFlag_l (k : Flag) (b : Bool) : (s.setFlag k b).l = s.l := rfl
@[simp] theorem State.setFlag_sp (k : Flag) (b : Bool) : (s.setFlag k b).sp = s.sp := rfl
@[simp] theorem State.setFlag_pc (k : Flag) (b : Bool) : (s.setFlag k b).pc = s.pc := rfl
@[simp] theorem State.setFlag_ime (k : Flag) (b : Bool) : (s.setFlag k b).ime = s.ime := rfl
@[simp] theorem State.setFlag_mode (k : Flag) (b : Bool) : (s.setFlag k b).mode = s.mode := rfl
@[simp] theorem State.setFlag_eiPending (k : Flag) (b : Bool) : (s.setFlag k b).eiPending = s.eiPending := rfl
@[simp] theorem State.setFlag_haltBug (k : Flag) (b : Bool) : (s.setFlag k b).haltBug = s.haltBug := rfl
@[simp] theorem State.setFlag_fault (k : Flag) (b : Bool) : (s.setFlag k b).fault = s.fault := rfl
@[simp] theorem State.setFlag_mem (k : Flag) (b : Bool) : (s.setFlag k b).mem = s.mem := rfl
@[simp] theorem State.setFlag_cycles (k : Flag) (b : Bool) : (s.setFlag k b).cycles = s.cycles := rfl
@[simp] theorem State.setFlag_bus (k : Flag) (b : Bool) : (s.setFlag k b).bus = s.bus := rfl
@[simp] theorem State.setFlag_config (k : Flag) (b : Bool) : (s.setFlag k b).config = s.config := rfl

/-! ### `setNH` (R16) -/

@[simp] theorem State.setNH_a (n h : Bool) : (s.setNH n h).a = s.a := rfl
@[simp] theorem State.setNH_f (n h : Bool) : (s.setNH n h).f = putBit (putBit s.f 6 n) 5 h := rfl
@[simp] theorem State.setNH_b (n h : Bool) : (s.setNH n h).b = s.b := rfl
@[simp] theorem State.setNH_c (n h : Bool) : (s.setNH n h).c = s.c := rfl
@[simp] theorem State.setNH_d (n h : Bool) : (s.setNH n h).d = s.d := rfl
@[simp] theorem State.setNH_e (n h : Bool) : (s.setNH n h).e = s.e := rfl
@[simp] theorem State.setNH_h (n h : Bool) : (s.setNH n h).h = s.h := rfl
@[simp] theorem State.setNH_l (n h : Bool) : (s.setNH n h).l = s.l := rfl
@[simp] theorem State.setNH_sp (n h : Bool) : (s.setNH n h).sp = s.sp := rfl
@[simp] theorem State.setNH_pc (n h : Bool) : (s.setNH n h).pc = s.pc := rfl
@[simp] theorem State.setNH_ime (n h : Bool) : (s.setNH n h).ime = s.ime := rfl
@[simp] theorem State.setNH_mode (n h : Bool) : (s.setNH n h).mode = s.mode := rfl
@[simp] theorem State.setNH_eiPending (n h : Bool) : (s.setNH n h).eiPending = s.eiPending := rfl
@[simp] theorem State.setNH_haltBug (n h : Bool) : (s.setNH n h).haltBug = s.haltBug := rfl
@[simp] theorem State.setNH_fault (n h : Bool) : (s.setNH n h).fault = s.fault := rfl
@[simp] theorem State.setNH_mem (n h : Bool) : (s.setNH n h).mem = s.mem := rfl
@[simp] theorem State.setNH_cycles (n h : Bool) : (s.setNH n h).cycles = s.cycles := rfl
@[simp] theorem State.setNH_bus (n h : Bool) : (s.setNH n h).bus = s.bus := rfl
@[simp] theorem State.setNH_config (n h : Bool) : (s.setNH n h).config = s.config := rfl

/-! ### `setZNH` (R16) -/

@[simp] theorem State.setZNH_a (z n h : Bool) : (s.setZNH z n h).a = s.a := rfl
@[simp] theorem State.setZNH_f (z n h : Bool) : (s.setZNH z n h).f = putBit (putBit (putBit s.f 7 z) 6 n) 5 h := rfl
@[simp] theorem State.setZNH_b (z n h : Bool) : (s.setZNH z n h).b = s.b := rfl
@[simp] theorem State.setZNH_c (z n h : Bool) : (s.setZNH z n h).c = s.c := rfl
@[simp] theorem State.setZNH_d (z n h : Bool) : (s.setZNH z n h).d = s.d := rfl
@[simp] theorem State.setZNH_e (z n h : Bool) : (s.setZNH z n h).e = s.e := rfl
@[simp] theorem State.setZNH_h (z n h : Bool) : (s.setZNH z n h).h = s.h := rfl
@[simp] theorem State.setZNH_l (z n h : Bool) : (s.setZNH z n h).l = s.l := rfl
@[simp] theorem State.setZNH_sp (z n h : Bool) : (s.setZNH z n h).sp = s.sp := rfl
@[simp] theorem State.setZNH_pc (z n h : Bool) : (s.setZNH z n h).pc = s.pc := rfl
@[simp] theorem State.setZNH_ime (z n h : Bool) : (s.setZNH z n h).ime = s.ime := rfl
@[simp] theorem State.setZNH_mode (z n h : Bool) : (s.setZNH z n h).mode = s.mode := rfl
@[simp] theorem State.setZNH_eiPending (z n h : Bool) : (s.setZNH z n h).eiPending = s.eiPending := rfl
@[simp] theorem State.setZNH_haltBug (z n h : Bool) : (s.setZNH z n h).haltBug = s.haltBug := rfl
@[simp] theorem State.setZNH_fault (z n h : Bool) : (s.setZNH z n h).fault = s.fault := rfl
@[simp] theorem State.setZNH_mem (z n h : Bool) : (s.setZNH z n h).mem = s.mem := rfl
@[simp] theorem State.setZNH_cycles (z n h : Bool) : (s.setZNH z n h).cycles = s.cycles := rfl
@[simp] theorem State.setZNH_bus (z n h : Bool) : (s.setZNH z n h).bus = s.bus := rfl
@[simp] theorem State.setZNH_config (z n h : Bool) : (s.setZNH z n h).config = s.config := rfl

/-! ### `setNHC` (R16) -/

@[simp] theorem State.setNHC_a (n h c : Bool) : (s.setNHC n h c).a = s.a := rfl
@[simp] theorem State.setNHC_f (n h c : Bool) : (s.setNHC n h c).f = putBit (putBit (putBit s.f 6 n) 5 h) 4 c := rfl
@[simp] theorem State.setNHC_b (n h c : Bool) : (s.setNHC n h c).b = s.b := rfl
@[simp] theorem State.setNHC_c (n h c : Bool) : (s.setNHC n h c).c = s.c := rfl
@[simp] theorem State.setNHC_d (n h c : Bool) : (s.setNHC n h c).d = s.d := rfl
@[simp] theorem State.setNHC_e (n h c : Bool) : (s.setNHC n h c).e = s.e := rfl
@[simp] theorem State.setNHC_h (n h c : Bool) : (s.setNHC n h c).h = s.h := rfl
@[simp] theorem State.setNHC_l (n h c : Bool) : (s.setNHC n h c).l = s.l := rfl
@[simp] theorem State.setNHC_sp (n h c : Bool) : (s.setNHC n h c).sp = s.sp := rfl
@[simp] theorem State.setNHC_pc (n h c : Bool) : (s.setNHC n h c).pc = s.pc := rfl
@[simp] theorem State.setNHC_ime (n h c : Bool) : (s.setNHC n h c).ime = s.ime := rfl
@[simp] theorem State.setNHC_mode (n h c : Bool) : (s.setNHC n h c).mode = s.mode := rfl
@[simp] theorem State.setNHC_eiPending (n h c : Bool) : (s.setNHC n h c).eiPending = s.eiPending := rfl
@[simp] theorem State.setNHC_haltBug (n h c : Bool) : (s.setNHC n h c).haltBug = s.haltBug := rfl
@[simp] theorem State.setNHC_fault (n h c : Bool) : (s.setNHC n h c).fault = s.fault := rfl
@[simp] theorem State.setNHC_mem (n h c : Bool) : (s.setNHC n h c).mem = s.mem := rfl
@[simp] theorem State.setNHC_cycles (n h c : Bool) : (s.setNHC n h c).cycles = s.cycles := rfl
@[simp] theorem State.setNHC_bus (n h c : Bool) : (s.setNHC n h c).bus = s.bus := rfl
@[simp] theorem State.setNHC_config (n h c : Bool) : (s.setNHC n h c).config = s.config := rfl

/-! ### `setFlags` (R16) -/

@[simp] theorem State.setFlags_a (z n h c : Bool) : (s.setFlags z n h c).a = s.a := rfl
@[simp] theorem State.setFlags_f (z n h c : Bool) : (s.setFlags z n h c).f = putBit (putBit (putBit (putBit s.f 7 z) 6 n) 5 h) 4 c := rfl
@[simp] theorem State.setFlags_b (z n h c : Bool) : (s.setFlags z n h c).b = s.b := rfl
@[simp] theorem State.setFlags_c (z n h c : Bool) : (s.setFlags z n h c).c = s.c := rfl
@[simp] theorem State.setFlags_d (z n h c : Bool) : (s.setFlags z n h c).d = s.d := rfl
@[simp] theorem State.setFlags_e (z n h c : Bool) : (s.setFlags z n h c).e = s.e := rfl
@[simp] theorem State.setFlags_h (z n h c : Bool) : (s.setFlags z n h c).h = s.h := rfl
@[simp] theorem State.setFlags_l (z n h c : Bool) : (s.setFlags z n h c).l = s.l := rfl
@[simp] theorem State.setFlags_sp (z n h c : Bool) : (s.setFlags z n h c).sp = s.sp := rfl
@[simp] theorem State.setFlags_pc (z n h c : Bool) : (s.setFlags z n h c).pc = s.pc := rfl
@[simp] theorem State.setFlags_ime (z n h c : Bool) : (s.setFlags z n h c).ime = s.ime := rfl
@[simp] theorem State.setFlags_mode (z n h c : Bool) : (s.setFlags z n h c).mode = s.mode := rfl
@[simp] theorem State.setFlags_eiPending (z n h c : Bool) : (s.setFlags z n h c).eiPending = s.eiPending := rfl
@[simp] theorem State.setFlags_haltBug (z n h c : Bool) : (s.setFlags z n h c).haltBug = s.haltBug := rfl
@[simp] theorem State.setFlags_fault (z n h c : Bool) : (s.setFlags z n h c).fault = s.fault := rfl
@[simp] theorem State.setFlags_mem (z n h c : Bool) : (s.setFlags z n h c).mem = s.mem := rfl
@[simp] theorem State.setFlags_cycles (z n h c : Bool) : (s.setFlags z n h c).cycles = s.cycles := rfl
@[simp] theorem State.setFlags_bus (z n h c : Bool) : (s.setFlags z n h c).bus = s.bus := rfl
@[simp] theorem State.setFlags_config (z n h c : Bool) : (s.setFlags z n h c).config = s.config := rfl

/-! ### `logRead` (R30, R37) -/

@[simp] theorem State.logRead_a (addr : Word) : (s.logRead addr).a = s.a := rfl
@[simp] theorem State.logRead_f (addr : Word) : (s.logRead addr).f = s.f := rfl
@[simp] theorem State.logRead_b (addr : Word) : (s.logRead addr).b = s.b := rfl
@[simp] theorem State.logRead_c (addr : Word) : (s.logRead addr).c = s.c := rfl
@[simp] theorem State.logRead_d (addr : Word) : (s.logRead addr).d = s.d := rfl
@[simp] theorem State.logRead_e (addr : Word) : (s.logRead addr).e = s.e := rfl
@[simp] theorem State.logRead_h (addr : Word) : (s.logRead addr).h = s.h := rfl
@[simp] theorem State.logRead_l (addr : Word) : (s.logRead addr).l = s.l := rfl
@[simp] theorem State.logRead_sp (addr : Word) : (s.logRead addr).sp = s.sp := rfl
@[simp] theorem State.logRead_pc (addr : Word) : (s.logRead addr).pc = s.pc := rfl
@[simp] theorem State.logRead_ime (addr : Word) : (s.logRead addr).ime = s.ime := rfl
@[simp] theorem State.logRead_mode (addr : Word) : (s.logRead addr).mode = s.mode := rfl
@[simp] theorem State.logRead_eiPending (addr : Word) : (s.logRead addr).eiPending = s.eiPending := rfl
@[simp] theorem State.logRead_haltBug (addr : Word) : (s.logRead addr).haltBug = s.haltBug := rfl
@[simp] theorem State.logRead_fault (addr : Word) : (s.logRead addr).fault = s.fault := rfl
@[simp] theorem State.logRead_mem (addr : Word) : (s.logRead addr).mem = s.mem := rfl
@[simp] theorem State.logRead_cycles (addr : Word) : (s.logRead addr).cycles = s.cycles := rfl
@[simp] theorem State.logRead_bus (addr : Word) : (s.logRead addr).bus = s.bus ++ [.read addr (s.busRead addr)] := rfl
@[simp] theorem State.logRead_config (addr : Word) : (s.logRead addr).config = s.config := rfl

/-! ### `memWrite` (R30, R37) -/

@[simp] theorem State.memWrite_a (addr : Word) (v : Byte) : (s.memWrite addr v).a = s.a := rfl
@[simp] theorem State.memWrite_f (addr : Word) (v : Byte) : (s.memWrite addr v).f = s.f := rfl
@[simp] theorem State.memWrite_b (addr : Word) (v : Byte) : (s.memWrite addr v).b = s.b := rfl
@[simp] theorem State.memWrite_c (addr : Word) (v : Byte) : (s.memWrite addr v).c = s.c := rfl
@[simp] theorem State.memWrite_d (addr : Word) (v : Byte) : (s.memWrite addr v).d = s.d := rfl
@[simp] theorem State.memWrite_e (addr : Word) (v : Byte) : (s.memWrite addr v).e = s.e := rfl
@[simp] theorem State.memWrite_h (addr : Word) (v : Byte) : (s.memWrite addr v).h = s.h := rfl
@[simp] theorem State.memWrite_l (addr : Word) (v : Byte) : (s.memWrite addr v).l = s.l := rfl
@[simp] theorem State.memWrite_sp (addr : Word) (v : Byte) : (s.memWrite addr v).sp = s.sp := rfl
@[simp] theorem State.memWrite_pc (addr : Word) (v : Byte) : (s.memWrite addr v).pc = s.pc := rfl
@[simp] theorem State.memWrite_ime (addr : Word) (v : Byte) : (s.memWrite addr v).ime = s.ime := rfl
@[simp] theorem State.memWrite_mode (addr : Word) (v : Byte) : (s.memWrite addr v).mode = s.mode := rfl
@[simp] theorem State.memWrite_eiPending (addr : Word) (v : Byte) : (s.memWrite addr v).eiPending = s.eiPending := rfl
@[simp] theorem State.memWrite_haltBug (addr : Word) (v : Byte) : (s.memWrite addr v).haltBug = s.haltBug := rfl
@[simp] theorem State.memWrite_fault (addr : Word) (v : Byte) : (s.memWrite addr v).fault = s.fault := rfl
@[simp] theorem State.memWrite_mem (addr : Word) (v : Byte) : (s.memWrite addr v).mem = s.mem.write addr.toNat v := rfl
@[simp] theorem State.memWrite_cycles (addr : Word) (v : Byte) : (s.memWrite addr v).cycles = s.cycles := rfl
@[simp] theorem State.memWrite_bus (addr : Word) (v : Byte) : (s.memWrite addr v).bus = s.bus ++ [.write addr v] := rfl
@[simp] theorem State.memWrite_config (addr : Word) (v : Byte) : (s.memWrite addr v).config = s.config := rfl

/-! ### `write16` (R33) -/

@[simp] theorem State.write16_a (addr v : Word) : (s.write16 addr v).a = s.a := rfl
@[simp] theorem State.write16_f (addr v : Word) : (s.write16 addr v).f = s.f := rfl
@[simp] theorem State.write16_b (addr v : Word) : (s.write16 addr v).b = s.b := rfl
@[simp] theorem State.write16_c (addr v : Word) : (s.write16 addr v).c = s.c := rfl
@[simp] theorem State.write16_d (addr v : Word) : (s.write16 addr v).d = s.d := rfl
@[simp] theorem State.write16_e (addr v : Word) : (s.write16 addr v).e = s.e := rfl
@[simp] theorem State.write16_h (addr v : Word) : (s.write16 addr v).h = s.h := rfl
@[simp] theorem State.write16_l (addr v : Word) : (s.write16 addr v).l = s.l := rfl
@[simp] theorem State.write16_sp (addr v : Word) : (s.write16 addr v).sp = s.sp := rfl
@[simp] theorem State.write16_pc (addr v : Word) : (s.write16 addr v).pc = s.pc := rfl
@[simp] theorem State.write16_ime (addr v : Word) : (s.write16 addr v).ime = s.ime := rfl
@[simp] theorem State.write16_mode (addr v : Word) : (s.write16 addr v).mode = s.mode := rfl
@[simp] theorem State.write16_eiPending (addr v : Word) : (s.write16 addr v).eiPending = s.eiPending := rfl
@[simp] theorem State.write16_haltBug (addr v : Word) : (s.write16 addr v).haltBug = s.haltBug := rfl
@[simp] theorem State.write16_fault (addr v : Word) : (s.write16 addr v).fault = s.fault := rfl
@[simp] theorem State.write16_mem (addr v : Word) : (s.write16 addr v).mem = (s.mem.write addr.toNat (lowByte v)).write (addr + 1).toNat (highByte v) := rfl
@[simp] theorem State.write16_cycles (addr v : Word) : (s.write16 addr v).cycles = s.cycles := rfl
@[simp] theorem State.write16_bus (addr v : Word) : (s.write16 addr v).bus = s.bus ++ [.write addr (lowByte v)] ++ [.write (addr + 1) (highByte v)] := rfl
@[simp] theorem State.write16_config (addr v : Word) : (s.write16 addr v).config = s.config := rfl

/-! ### `setSp` (R15) -/

@[simp] theorem State.setSp_a (v : Word) : (s.setSp v).a = s.a := rfl
@[simp] theorem State.setSp_f (v : Word) : (s.setSp v).f = s.f := rfl
@[simp] theorem State.setSp_b (v : Word) : (s.setSp v).b = s.b := rfl
@[simp] theorem State.setSp_c (v : Word) : (s.setSp v).c = s.c := rfl
@[simp] theorem State.setSp_d (v : Word) : (s.setSp v).d = s.d := rfl
@[simp] theorem State.setSp_e (v : Word) : (s.setSp v).e = s.e := rfl
@[simp] theorem State.setSp_h (v : Word) : (s.setSp v).h = s.h := rfl
@[simp] theorem State.setSp_l (v : Word) : (s.setSp v).l = s.l := rfl
@[simp] theorem State.setSp_sp (v : Word) : (s.setSp v).sp = v := rfl
@[simp] theorem State.setSp_pc (v : Word) : (s.setSp v).pc = s.pc := rfl
@[simp] theorem State.setSp_ime (v : Word) : (s.setSp v).ime = s.ime := rfl
@[simp] theorem State.setSp_mode (v : Word) : (s.setSp v).mode = s.mode := rfl
@[simp] theorem State.setSp_eiPending (v : Word) : (s.setSp v).eiPending = s.eiPending := rfl
@[simp] theorem State.setSp_haltBug (v : Word) : (s.setSp v).haltBug = s.haltBug := rfl
@[simp] theorem State.setSp_fault (v : Word) : (s.setSp v).fault = s.fault := rfl
@[simp] theorem State.setSp_mem (v : Word) : (s.setSp v).mem = s.mem := rfl
@[simp] theorem State.setSp_cycles (v : Word) : (s.setSp v).cycles = s.cycles := rfl
@[simp] theorem State.setSp_bus (v : Word) : (s.setSp v).bus = s.bus := rfl
@[simp] theorem State.setSp_config (v : Word) : (s.setSp v).config = s.config := rfl

/-! ### `push16` (R160) -/

@[simp] theorem State.push16_a (v : Word) : (s.push16 v).a = s.a := rfl
@[simp] theorem State.push16_f (v : Word) : (s.push16 v).f = s.f := rfl
@[simp] theorem State.push16_b (v : Word) : (s.push16 v).b = s.b := rfl
@[simp] theorem State.push16_c (v : Word) : (s.push16 v).c = s.c := rfl
@[simp] theorem State.push16_d (v : Word) : (s.push16 v).d = s.d := rfl
@[simp] theorem State.push16_e (v : Word) : (s.push16 v).e = s.e := rfl
@[simp] theorem State.push16_h (v : Word) : (s.push16 v).h = s.h := rfl
@[simp] theorem State.push16_l (v : Word) : (s.push16 v).l = s.l := rfl
@[simp] theorem State.push16_sp (v : Word) : (s.push16 v).sp = s.sp - 2 := rfl
@[simp] theorem State.push16_pc (v : Word) : (s.push16 v).pc = s.pc := rfl
@[simp] theorem State.push16_ime (v : Word) : (s.push16 v).ime = s.ime := rfl
@[simp] theorem State.push16_mode (v : Word) : (s.push16 v).mode = s.mode := rfl
@[simp] theorem State.push16_eiPending (v : Word) : (s.push16 v).eiPending = s.eiPending := rfl
@[simp] theorem State.push16_haltBug (v : Word) : (s.push16 v).haltBug = s.haltBug := rfl
@[simp] theorem State.push16_fault (v : Word) : (s.push16 v).fault = s.fault := rfl
@[simp] theorem State.push16_mem (v : Word) : (s.push16 v).mem = (s.mem.write (s.sp - 2).toNat (lowByte v)).write (s.sp - 2 + 1).toNat (highByte v) := rfl
@[simp] theorem State.push16_cycles (v : Word) : (s.push16 v).cycles = s.cycles := rfl
@[simp] theorem State.push16_bus (v : Word) : (s.push16 v).bus = s.bus ++ [.write (s.sp - 2) (lowByte v)] ++ [.write (s.sp - 2 + 1) (highByte v)] := rfl
@[simp] theorem State.push16_config (v : Word) : (s.push16 v).config = s.config := rfl

/-! ### `setPc` (R24) -/

@[simp] theorem State.setPc_a (v : Word) : (s.setPc v).a = s.a := rfl
@[simp] theorem State.setPc_f (v : Word) : (s.setPc v).f = s.f := rfl
@[simp] theorem State.setPc_b (v : Word) : (s.setPc v).b = s.b := rfl
@[simp] theorem State.setPc_c (v : Word) : (s.setPc v).c = s.c := rfl
@[simp] theorem State.setPc_d (v : Word) : (s.setPc v).d = s.d := rfl
@[simp] theorem State.setPc_e (v : Word) : (s.setPc v).e = s.e := rfl
@[simp] theorem State.setPc_h (v : Word) : (s.setPc v).h = s.h := rfl
@[simp] theorem State.setPc_l (v : Word) : (s.setPc v).l = s.l := rfl
@[simp] theorem State.setPc_sp (v : Word) : (s.setPc v).sp = s.sp := rfl
@[simp] theorem State.setPc_pc (v : Word) : (s.setPc v).pc = v := rfl
@[simp] theorem State.setPc_ime (v : Word) : (s.setPc v).ime = s.ime := rfl
@[simp] theorem State.setPc_mode (v : Word) : (s.setPc v).mode = s.mode := rfl
@[simp] theorem State.setPc_eiPending (v : Word) : (s.setPc v).eiPending = s.eiPending := rfl
@[simp] theorem State.setPc_haltBug (v : Word) : (s.setPc v).haltBug = s.haltBug := rfl
@[simp] theorem State.setPc_fault (v : Word) : (s.setPc v).fault = s.fault := rfl
@[simp] theorem State.setPc_mem (v : Word) : (s.setPc v).mem = s.mem := rfl
@[simp] theorem State.setPc_cycles (v : Word) : (s.setPc v).cycles = s.cycles := rfl
@[simp] theorem State.setPc_bus (v : Word) : (s.setPc v).bus = s.bus := rfl
@[simp] theorem State.setPc_config (v : Word) : (s.setPc v).config = s.config := rfl

/-! ### `setIme` (R18) -/

@[simp] theorem State.setIme_a (v : Bool) : (s.setIme v).a = s.a := rfl
@[simp] theorem State.setIme_f (v : Bool) : (s.setIme v).f = s.f := rfl
@[simp] theorem State.setIme_b (v : Bool) : (s.setIme v).b = s.b := rfl
@[simp] theorem State.setIme_c (v : Bool) : (s.setIme v).c = s.c := rfl
@[simp] theorem State.setIme_d (v : Bool) : (s.setIme v).d = s.d := rfl
@[simp] theorem State.setIme_e (v : Bool) : (s.setIme v).e = s.e := rfl
@[simp] theorem State.setIme_h (v : Bool) : (s.setIme v).h = s.h := rfl
@[simp] theorem State.setIme_l (v : Bool) : (s.setIme v).l = s.l := rfl
@[simp] theorem State.setIme_sp (v : Bool) : (s.setIme v).sp = s.sp := rfl
@[simp] theorem State.setIme_pc (v : Bool) : (s.setIme v).pc = s.pc := rfl
@[simp] theorem State.setIme_ime (v : Bool) : (s.setIme v).ime = v := rfl
@[simp] theorem State.setIme_mode (v : Bool) : (s.setIme v).mode = s.mode := rfl
@[simp] theorem State.setIme_eiPending (v : Bool) : (s.setIme v).eiPending = false := rfl
@[simp] theorem State.setIme_haltBug (v : Bool) : (s.setIme v).haltBug = s.haltBug := rfl
@[simp] theorem State.setIme_fault (v : Bool) : (s.setIme v).fault = s.fault := rfl
@[simp] theorem State.setIme_mem (v : Bool) : (s.setIme v).mem = s.mem := rfl
@[simp] theorem State.setIme_cycles (v : Bool) : (s.setIme v).cycles = s.cycles := rfl
@[simp] theorem State.setIme_bus (v : Bool) : (s.setIme v).bus = s.bus := rfl
@[simp] theorem State.setIme_config (v : Bool) : (s.setIme v).config = s.config := rfl

/-! ### `setMode` (R20) -/

@[simp] theorem State.setMode_a (m : Mode) : (s.setMode m).a = s.a := rfl
@[simp] theorem State.setMode_f (m : Mode) : (s.setMode m).f = s.f := rfl
@[simp] theorem State.setMode_b (m : Mode) : (s.setMode m).b = s.b := rfl
@[simp] theorem State.setMode_c (m : Mode) : (s.setMode m).c = s.c := rfl
@[simp] theorem State.setMode_d (m : Mode) : (s.setMode m).d = s.d := rfl
@[simp] theorem State.setMode_e (m : Mode) : (s.setMode m).e = s.e := rfl
@[simp] theorem State.setMode_h (m : Mode) : (s.setMode m).h = s.h := rfl
@[simp] theorem State.setMode_l (m : Mode) : (s.setMode m).l = s.l := rfl
@[simp] theorem State.setMode_sp (m : Mode) : (s.setMode m).sp = s.sp := rfl
@[simp] theorem State.setMode_pc (m : Mode) : (s.setMode m).pc = s.pc := rfl
@[simp] theorem State.setMode_ime (m : Mode) : (s.setMode m).ime = s.ime := rfl
@[simp] theorem State.setMode_mode (m : Mode) : (s.setMode m).mode = m := rfl
@[simp] theorem State.setMode_eiPending (m : Mode) : (s.setMode m).eiPending = s.eiPending := rfl
@[simp] theorem State.setMode_haltBug (m : Mode) : (s.setMode m).haltBug = s.haltBug := rfl
@[simp] theorem State.setMode_fault (m : Mode) : (s.setMode m).fault = s.fault := rfl
@[simp] theorem State.setMode_mem (m : Mode) : (s.setMode m).mem = s.mem := rfl
@[simp] theorem State.setMode_cycles (m : Mode) : (s.setMode m).cycles = s.cycles := rfl
@[simp] theorem State.setMode_bus (m : Mode) : (s.setMode m).bus = s.bus := rfl
@[simp] theorem State.setMode_config (m : Mode) : (s.setMode m).config = s.config := rfl

/-! ### `charge` (R60) -/

@[simp] theorem State.charge_a (n : Nat) : (s.charge n).a = s.a := rfl
@[simp] theorem State.charge_f (n : Nat) : (s.charge n).f = s.f := rfl
@[simp] theorem State.charge_b (n : Nat) : (s.charge n).b = s.b := rfl
@[simp] theorem State.charge_c (n : Nat) : (s.charge n).c = s.c := rfl
@[simp] theorem State.charge_d (n : Nat) : (s.charge n).d = s.d := rfl
@[simp] theorem State.charge_e (n : Nat) : (s.charge n).e = s.e := rfl
@[simp] theorem State.charge_h (n : Nat) : (s.charge n).h = s.h := rfl
@[simp] theorem State.charge_l (n : Nat) : (s.charge n).l = s.l := rfl
@[simp] theorem State.charge_sp (n : Nat) : (s.charge n).sp = s.sp := rfl
@[simp] theorem State.charge_pc (n : Nat) : (s.charge n).pc = s.pc := rfl
@[simp] theorem State.charge_ime (n : Nat) : (s.charge n).ime = s.ime := rfl
@[simp] theorem State.charge_mode (n : Nat) : (s.charge n).mode = s.mode := rfl
@[simp] theorem State.charge_eiPending (n : Nat) : (s.charge n).eiPending = s.eiPending := rfl
@[simp] theorem State.charge_haltBug (n : Nat) : (s.charge n).haltBug = s.haltBug := rfl
@[simp] theorem State.charge_fault (n : Nat) : (s.charge n).fault = s.fault := rfl
@[simp] theorem State.charge_mem (n : Nat) : (s.charge n).mem = s.mem := rfl
@[simp] theorem State.charge_cycles (n : Nat) : (s.charge n).cycles = s.cycles + n := rfl
@[simp] theorem State.charge_bus (n : Nat) : (s.charge n).bus = s.bus := rfl
@[simp] theorem State.charge_config (n : Nat) : (s.charge n).config = s.config := rfl

/-! ### `beginStep` (R60) -/

@[simp] theorem State.beginStep_a : (s.beginStep).a = s.a := rfl
@[simp] theorem State.beginStep_f : (s.beginStep).f = s.f := rfl
@[simp] theorem State.beginStep_b : (s.beginStep).b = s.b := rfl
@[simp] theorem State.beginStep_c : (s.beginStep).c = s.c := rfl
@[simp] theorem State.beginStep_d : (s.beginStep).d = s.d := rfl
@[simp] theorem State.beginStep_e : (s.beginStep).e = s.e := rfl
@[simp] theorem State.beginStep_h : (s.beginStep).h = s.h := rfl
@[simp] theorem State.beginStep_l : (s.beginStep).l = s.l := rfl
@[simp] theorem State.beginStep_sp : (s.beginStep).sp = s.sp := rfl
@[simp] theorem State.beginStep_pc : (s.beginStep).pc = s.pc := rfl
@[simp] theorem State.beginStep_ime : (s.beginStep).ime = s.ime := rfl
@[simp] theorem State.beginStep_mode : (s.beginStep).mode = s.mode := rfl
@[simp] theorem State.beginStep_eiPending : (s.beginStep).eiPending = s.eiPending := rfl
@[simp] theorem State.beginStep_haltBug : (s.beginStep).haltBug = s.haltBug := rfl
@[simp] theorem State.beginStep_fault : (s.beginStep).fault = s.fault := rfl
@[simp] theorem State.beginStep_mem : (s.beginStep).mem = s.mem := rfl
@[simp] theorem State.beginStep_cycles : (s.beginStep).cycles = 0 := rfl
@[simp] theorem State.beginStep_bus : (s.beginStep).bus = [] := rfl
@[simp] theorem State.beginStep_config : (s.beginStep).config = s.config := rfl

/-! ### `deviceWrite` (R11) -/

@[simp] theorem State.deviceWrite_a (addr : Word) (v : Byte) : (s.deviceWrite addr v).a = s.a := rfl
@[simp] theorem State.deviceWrite_f (addr : Word) (v : Byte) : (s.deviceWrite addr v).f = s.f := rfl
@[simp] theorem State.deviceWrite_b (addr : Word) (v : Byte) : (s.deviceWrite addr v).b = s.b := rfl
@[simp] theorem State.deviceWrite_c (addr : Word) (v : Byte) : (s.deviceWrite addr v).c = s.c := rfl
@[simp] theorem State.deviceWrite_d (addr : Word) (v : Byte) : (s.deviceWrite addr v).d = s.d := rfl
@[simp] theorem State.deviceWrite_e (addr : Word) (v : Byte) : (s.deviceWrite addr v).e = s.e := rfl
@[simp] theorem State.deviceWrite_h (addr : Word) (v : Byte) : (s.deviceWrite addr v).h = s.h := rfl
@[simp] theorem State.deviceWrite_l (addr : Word) (v : Byte) : (s.deviceWrite addr v).l = s.l := rfl
@[simp] theorem State.deviceWrite_sp (addr : Word) (v : Byte) : (s.deviceWrite addr v).sp = s.sp := rfl
@[simp] theorem State.deviceWrite_pc (addr : Word) (v : Byte) : (s.deviceWrite addr v).pc = s.pc := rfl
@[simp] theorem State.deviceWrite_ime (addr : Word) (v : Byte) : (s.deviceWrite addr v).ime = s.ime := rfl
@[simp] theorem State.deviceWrite_mode (addr : Word) (v : Byte) : (s.deviceWrite addr v).mode = s.mode := rfl
@[simp] theorem State.deviceWrite_eiPending (addr : Word) (v : Byte) : (s.deviceWrite addr v).eiPending = s.eiPending := rfl
@[simp] theorem State.deviceWrite_haltBug (addr : Word) (v : Byte) : (s.deviceWrite addr v).haltBug = s.haltBug := rfl
@[simp] theorem State.deviceWrite_fault (addr : Word) (v : Byte) : (s.deviceWrite addr v).fault = s.fault := rfl
@[simp] theorem State.deviceWrite_mem (addr : Word) (v : Byte) : (s.deviceWrite addr v).mem = s.mem.write addr.toNat v := rfl
@[simp] theorem State.deviceWrite_cycles (addr : Word) (v : Byte) : (s.deviceWrite addr v).cycles = s.cycles := rfl
@[simp] theorem State.deviceWrite_bus (addr : Word) (v : Byte) : (s.deviceWrite addr v).bus = s.bus := rfl
@[simp] theorem State.deviceWrite_config (addr : Word) (v : Byte) : (s.deviceWrite addr v).config = s.config := rfl

/-! ### What reads of pairs, flags, registers and bytes give after an update that does not touch them -/

@[simp] theorem State.de_setBc (v : Word) : (s.setBc v).de = s.de := rfl
@[simp] theorem State.hl_setBc (v : Word) : (s.setBc v).hl = s.hl := rfl
@[simp] theorem State.af_setBc (v : Word) : (s.setBc v).af = s.af := rfl
@[simp] theorem State.flag_setBc (v : Word) (j : Flag) : (s.setBc v).flag j = s.flag j := rfl
@[simp] theorem State.busRead_setBc (v : Word) (x : Word) : (s.setBc v).busRead x = s.busRead x := rfl
@[simp] theorem State.bc_setDe (v : Word) : (s.setDe v).bc = s.bc := rfl
@[simp] theorem State.hl_setDe (v : Word) : (s.setDe v).hl = s.hl := rfl
@[simp] theorem State.af_setDe (v : Word) : (s.setDe v).af = s.af := rfl
@[simp] theorem State.flag_setDe (v : Word) (j : Flag) : (s.setDe v).flag j = s.flag j := rfl
@[simp] theorem State.busRead_setDe (v : Word) (x : Word) : (s.setDe v).busRead x = s.busRead x := rfl
@[simp] theorem State.bc_setHl (v : Word) : (s.setHl v).bc = s.bc := rfl
@[simp] theorem State.de_setHl (v : Word) : (s.setHl v).de = s.de := rfl
@[simp] theorem State.af_setHl (v : Word) : (s.setHl v).af = s.af := rfl
@[simp] theorem State.flag_setHl (v : Word) (j : Flag) : (s.setHl v).flag j = s.flag j := rfl
@[simp] theorem State.busRead_setHl (v : Word) (x : Word) : (s.setHl v).busRead x = s.busRead x := rfl
@[simp] theorem State.bc_setAf (v : Word) : (s.setAf v).bc = s.bc := rfl
@[simp] theorem State.de_setAf (v : Word) : (s.setAf v).de = s.de := rfl
@[simp] theorem State.hl_setAf (v : Word) : (s.setAf v).hl = s.hl := rfl
@[simp] theorem State.busRead_setAf (v : Word) (x : Word) : (s.setAf v).busRead x = s.busRead x := rfl
@[simp] theorem State.bc_setFlag (k : Flag) (b : Bool) : (s.setFlag k b).bc = s.bc := rfl
@[simp] theorem State.de_setFlag (k : Flag) (b : Bool) : (s.setFlag k b).de = s.de := rfl
@[simp] theorem State.hl_setFlag (k : Flag) (b : Bool) : (s.setFlag k b).hl = s.hl := rfl
@[simp] theorem State.r8_setFlag (k : Flag) (b : Bool) (r : R8) : (s.setFlag k b).r8 r = s.r8 r := by cases r <;> rfl
@[simp] theorem State.busRead_setFlag (k : Flag) (b : Bool) (x : Word) : (s.setFlag k b).busRead x = s.busRead x := rfl
@[simp] theorem State.bc_setNH (n h : Bool) : (s.setNH n h).bc = s.bc := rfl
@[simp] theorem State.de_setNH (n h : Bool) : (s.setNH n h).de = s.de := rfl
@[simp] theorem State.hl_setNH (n h : Bool) : (s.setNH n h).hl = s.hl := rfl
@[simp] theorem State.r8_setNH (n h : Bool) (r : R8) : (s.setNH n h).r8 r = s.r8 r := by cases r <;> rfl
@[simp] theorem State.busRead_setNH (n h : Bool) (x : Word) : (s.setNH n h).busRead x = s.busRead x := rfl
@[simp] theorem State.bc_setZNH (z n h : Bool) : (s.setZNH z n h).bc = s.bc := rfl
@[simp] theorem State.de_setZNH (z n h : Bool) : (s.setZNH z n h).de = s.de := rfl
@[simp] theorem State.hl_setZNH (z n h : Bool) : (s.setZNH z n h).hl = s.hl := rfl
@[simp] theorem State.r8_setZNH (z n h : Bool) (r : R8) : (s.setZNH z n h).r8 r = s.r8 r := by cases r <;> rfl
@[simp] theorem State.busRead_setZNH (z n h : Bool) (x : Word) : (s.setZNH z n h).busRead x = s.busRead x := rfl
@[simp] theorem State.bc_setNHC (n h c : Bool) : (s.setNHC n h c).bc = s.bc := rfl
@[simp] theorem State.de_setNHC (n h c : Bool) : (s.setNHC n h c).de = s.de := rfl
@[simp] theorem State.hl_setNHC (n h c : Bool) : (s.setNHC n h c).hl = s.hl := rfl
@[simp] theorem State.r8_setNHC (n h c : Bool) (r : R8) : (s.setNHC n h c).r8 r = s.r8 r := by cases r <;> rfl
@[simp] theorem State.busRead_setNHC (n h c : Bool) (x : Word) : (s.setNHC n h c).busRead x = s.busRead x := rfl
@[simp] theorem State.bc_setFlags (z n h c : Bool) : (s.setFlags z n h c).bc = s.bc := rfl
@[simp] theorem State.de_setFlags (z n h c : Bool) : (s.setFlags z n h c).de = s.de := rfl
@[simp] theorem State.hl_setFlags (z n h c : Bool) : (s.setFlags z n h c).hl = s.hl := rfl
@[simp] theorem State.r8_setFlags (z n h c : Bool) (r : R8) : (s.setFlags z n h c).r8 r = s.r8 r := by cases r <;> rfl
@[simp] theorem State.busRead_setFlags (z n h c : Bool) (x : Word) : (s.setFlags z n h c).busRead x = s.busRead x := rfl
@[simp] theorem State.bc_logRead (addr : Word) : (s.logRead addr).bc = s.bc := rfl
@[simp] theorem State.de_logRead (addr : Word) : (s.logRead addr).de = s.de := rfl
@[simp] theorem State.hl_logRead (addr : Word) : (s.logRead addr).hl = s.hl := rfl
@[simp] theorem State.af_logRead (addr : Word) : (s.logRead addr).af = s.af := rfl
@[simp] theorem State.flag_logRead (addr : Word) (j : Flag) : (s.logRead addr).flag j = s.flag j := rfl
@[simp] theorem State.r8_logRead (addr : Word) (r : R8) : (s.logRead addr).r8 r = s.r8 r := by cases r <;> rfl
@[simp] theorem State.busRead_logRead (addr : Word) (x : Word) : (s.logRead addr).busRead x = s.busRead x := rfl
@[simp] theorem State.bc_memWrite (addr : Word) (v : Byte) : (s.memWrite addr v).bc = s.bc := rfl
@[simp] theorem State.de_memWrite (addr : Word) (v : Byte) : (s.memWrite addr v).de = s.de := rfl
@[simp] theorem State.hl_memWrite (addr : Word) (v : Byte) : (s.memWrite addr v).hl = s.hl := rfl
@[simp] theorem State.af_memWrite (addr : Word) (v : Byte) : (s.memWrite addr v).af = s.af := rfl
@[simp] theorem State.flag_memWrite (addr : Word) (v : Byte) (j : Flag) : (s.memWrite addr v).flag j = s.flag j := rfl
@[simp] theorem State.r8_memWrite (addr : Word) (v : Byte) (r : R8) : (s.memWrite addr v).r8 r = s.r8 r := by cases r <;> rfl
@[simp] theorem State.bc_write16 (addr v : Word) : (s.write16 addr v).bc = s.bc := rfl
@[simp] theorem State.de_write16 (addr v : Word) : (s.write16 addr v).de = s.de := rfl
@[simp] theorem State.hl_write16 (addr v : Word) : (s.write16 addr v).hl = s.hl := rfl
@[simp] theorem State.af_write16 (addr v : Word) : (s.write16 addr v).af = s.af := rfl
@[simp] theorem State.flag_write16 (addr v : Word) (j : Flag) : (s.write16 addr v).flag j = s.flag j := rfl
@[simp] theorem State.r8_write16 (addr v : Word) (r : R8) : (s.write16 addr v).r8 r = s.r8 r := by cases r <;> rfl
@[simp] theorem State.bc_setSp (v : Word) : (s.setSp v).bc = s.bc := rfl
@[simp] theorem State.de_setSp (v : Word) : (s.setSp v).de = s.de := rfl
@[simp] theorem State.hl_setSp (v : Word) : (s.setSp v).hl = s.hl := rfl
@[simp] theorem State.af_setSp (v : Word) : (s.setSp v).af = s.af := rfl
@[simp] theorem State.flag_setSp (v : Word) (j : Flag) : (s.setSp v).flag j = s.flag j := rfl
@[simp] theorem State.r8_setSp (v : Word) (r : R8) : (s.setSp v).r8 r = s.r8 r := by cases r <;> rfl
@[simp] theorem State.busRead_setSp (v : Word) (x : Word) : (s.setSp v).busRead x = s.busRead x := rfl
@[simp] theorem State.bc_push16 (v : Word) : (s.push16 v).bc = s.bc := rfl
@[simp] theorem State.de_push16 (v : Word) : (s.push16 v).de = s.de := rfl
@[simp] theorem State.hl_push16 (v : Word) : (s.push16 v).hl = s.hl := rfl
@[simp] theorem State.af_push16 (v : Word) : (s.push16 v).af = s.af := rfl
@[simp] theorem State.flag_push16 (v : Word) (j : Flag) : (s.push16 v).flag j = s.flag j := rfl
@[simp] theorem State.r8_push16 (v : Word) (r : R8) : (s.push16 v).r8 r = s.r8 r := by cases r <;> rfl
@[simp] theorem State.bc_setPc (v : Word) : (s.setPc v).bc = s.bc := rfl
@[simp] theorem State.de_setPc (v : Word) : (s.setPc v).de = s.de := rfl
@[simp] theorem State.hl_setPc (v : Word) : (s.setPc v).hl = s.hl := rfl
@[simp] theorem State.af_setPc (v : Word) : (s.setPc v).af = s.af := rfl
@[simp] theorem State.flag_setPc (v : Word) (j : Flag) : (s.setPc v).flag j = s.flag j := rfl
@[simp] theorem State.r8_setPc (v : Word) (r : R8) : (s.setPc v).r8 r = s.r8 r := by cases r <;> rfl
@[simp] theorem State.busRead_setPc (v : Word) (x : Word) : (s.setPc v).busRead x = s.busRead x := rfl
@[simp] theorem State.bc_setIme (v : Bool) : (s.setIme v).bc = s.bc := rfl
@[simp] theorem State.de_setIme (v : Bool) : (s.setIme v).de = s.de := rfl
@[simp] theorem State.hl_setIme (v : Bool) : (s.setIme v).hl = s.hl := rfl
@[simp] theorem State.af_setIme (v : Bool) : (s.setIme v).af = s.af := rfl
@[simp] theorem State.flag_setIme (v : Bool) (j : Flag) : (s.setIme v).flag j = s.flag j := rfl
@[simp] theorem State.r8_setIme (v : Bool) (r : R8) : (s.setIme v).r8 r = s.r8 r := by cases r <;> rfl
@[simp] theorem State.busRead_setIme (v : Bool) (x : Word) : (s.setIme v).busRead x = s.busRead x := rfl
@[simp] theorem State.bc_setMode (m : Mode) : (s.setMode m).bc = s.bc := rfl
@[simp] theorem State.de_setMode (m : Mode) : (s.setMode m).de = s.de := rfl
@[simp] theorem State.hl_setMode (m : Mode) : (s.setMode m).hl = s.hl := rfl
@[simp] theorem State.af_setMode (m : Mode) : (s.setMode m).af = s.af := rfl
@[simp] theorem State.flag_setMode (m : Mode) (j : Flag) : (s.setMode m).flag j = s.flag j := rfl
@[simp] theorem State.r8_setMode (m : Mode) (r : R8) : (s.setMode m).r8 r = s.r8 r := by cases r <;> rfl
@[simp] theorem State.busRead_setMode (m : Mode) (x : Word) : (s.setMode m).busRead x = s.busRead x := rfl
@[simp] theorem State.bc_charge (n : Nat) : (s.charge n).bc = s.bc := rfl
@[simp] theorem State.de_charge (n : Nat) : (s.charge n).de = s.de := rfl
@[simp] theorem State.hl_charge (n : Nat) : (s.charge n).hl = s.hl := rfl
@[simp] theorem State.af_charge (n : Nat) : (s.charge n).af = s.af := rfl
@[simp] theorem State.flag_charge (n : Nat) (j : Flag) : (s.charge n).flag j = s.flag j := rfl
@[simp] theorem State.r8_charge (n : Nat) (r : R8) : (s.charge n).r8 r = s.r8 r := by cases r <;> rfl
@[simp] theorem State.busRead_charge (n : Nat) (x : Word) : (s.charge n).busRead x = s.busRead x := rfl
@[simp] theorem State.bc_beginStep : (s.beginStep).bc = s.bc := rfl
@[simp] theorem State.de_beginStep : (s.beginStep).de = s.de := rfl
@[simp] theorem State.hl_beginStep : (s.beginStep).hl = s.hl := rfl
@[simp] theorem State.af_beginStep : (s.beginStep).af = s.af := rfl
@[simp] theorem State.flag_beginStep (j : Flag) : (s.beginStep).flag j = s.flag j := rfl
@[simp] theorem State.r8_beginStep (r : R8) : (s.beginStep).r8 r = s.r8 r := by cases r <;> rfl
@[simp] theorem State.busRead_beginStep (x : Word) : (s.beginStep).busRead x = s.busRead x := rfl
@[simp] theorem State.bc_deviceWrite (addr : Word) (v : Byte) : (s.deviceWrite addr v).bc = s.bc := rfl
@[simp] theorem State.de_deviceWrite (addr : Word) (v : Byte) : (s.deviceWrite addr v).de = s.de := rfl
@[simp] theorem State.hl_deviceWrite (addr : Word) (v : Byte) : (s.deviceWrite addr v).hl = s.hl := rfl
@[simp] theorem State.af_deviceWrite (addr : Word) (v : Byte) : (s.deviceWrite addr v).af = s.af := rfl
@[simp] theorem State.flag_deviceWrite (addr : Word) (v : Byte) (j : Flag) : (s.deviceWrite addr v).flag j = s.flag j := rfl
@[simp] theorem State.r8_deviceWrite (addr : Word) (v : Byte) (r : R8) : (s.deviceWrite addr v).r8 r = s.r8 r := by cases r <;> rfl

end Sys2Proof.Machine
end

