-- ==== Sys2Proof/Laws/Ops.lean ====
section
/-! SUPPORT. One lemma per shared operation that says once everything it can do: registers, pairs, flags, bus, stack, the taking of an
interrupt, the return from one, the raising of the fault. Later proofs cite these instead of unfolding an operation. -/

namespace Sys2Proof.Machine

variable (s : State)

/-! ### Registers (R13, R50) -/

/-- A written register holds the value, every other one what it held. -/
@[simp] theorem State.r8_setR8 (r q : R8) (v : Byte) : (s.setR8 r v).r8 q = if q = r then v else s.r8 q := by
  cases r <;> cases q <;> rfl

@[simp] theorem State.setR8_f (r : R8) (v : Byte) : (s.setR8 r v).f = s.f := by cases r <;> rfl
@[simp] theorem State.setR8_sp (r : R8) (v : Byte) : (s.setR8 r v).sp = s.sp := by cases r <;> rfl
@[simp] theorem State.setR8_pc (r : R8) (v : Byte) : (s.setR8 r v).pc = s.pc := by cases r <;> rfl
@[simp] theorem State.setR8_ime (r : R8) (v : Byte) : (s.setR8 r v).ime = s.ime := by cases r <;> rfl
@[simp] theorem State.setR8_mode (r : R8) (v : Byte) : (s.setR8 r v).mode = s.mode := by cases r <;> rfl
@[simp] theorem State.setR8_eiPending (r : R8) (v : Byte) : (s.setR8 r v).eiPending = s.eiPending := by cases r <;> rfl
@[simp] theorem State.setR8_haltBug (r : R8) (v : Byte) : (s.setR8 r v).haltBug = s.haltBug := by cases r <;> rfl
@[simp] theorem State.setR8_fault (r : R8) (v : Byte) : (s.setR8 r v).fault = s.fault := by cases r <;> rfl
@[simp] theorem State.setR8_mem (r : R8) (v : Byte) : (s.setR8 r v).mem = s.mem := by cases r <;> rfl
@[simp] theorem State.setR8_cycles (r : R8) (v : Byte) : (s.setR8 r v).cycles = s.cycles := by cases r <;> rfl
@[simp] theorem State.setR8_bus (r : R8) (v : Byte) : (s.setR8 r v).bus = s.bus := by cases r <;> rfl
@[simp] theorem State.setR8_config (r : R8) (v : Byte) : (s.setR8 r v).config = s.config := by cases r <;> rfl

/-- A written register and nothing else. -/
theorem State.setR8_eq (r : R8) (v : Byte) : s.setR8 r v =
    { s with
      a := (s.setR8 r v).a, b := (s.setR8 r v).b, c := (s.setR8 r v).c, d := (s.setR8 r v).d, e := (s.setR8 r v).e
      h := (s.setR8 r v).h, l := (s.setR8 r v).l } := by
  cases r <;> rfl

@[simp] theorem State.setR8_flag (r : R8) (v : Byte) (k : Flag) : (s.setR8 r v).flag k = s.flag k := by
  simp [State.flag]

/-! ### Pairs (R14, R51) -/

/-- A written pair holds the value, every other one what it held. -/
@[simp] theorem State.pair_setPair (p q : Pair) (v : Word) : (s.setPair p v).pair q = if q = p then v else s.pair q := by
  cases p <;> cases q <;> simp [State.setPair, State.pair, State.bc, State.de, State.hl]

@[simp] theorem State.setPair_f (p : Pair) (v : Word) : (s.setPair p v).f = s.f := by cases p <;> rfl
@[simp] theorem State.setPair_pc (p : Pair) (v : Word) : (s.setPair p v).pc = s.pc := by cases p <;> rfl
@[simp] theorem State.setPair_ime (p : Pair) (v : Word) : (s.setPair p v).ime = s.ime := by cases p <;> rfl
@[simp] theorem State.setPair_mode (p : Pair) (v : Word) : (s.setPair p v).mode = s.mode := by cases p <;> rfl
@[simp] theorem State.setPair_eiPending (p : Pair) (v : Word) : (s.setPair p v).eiPending = s.eiPending := by cases p <;> rfl
@[simp] theorem State.setPair_haltBug (p : Pair) (v : Word) : (s.setPair p v).haltBug = s.haltBug := by cases p <;> rfl
@[simp] theorem State.setPair_fault (p : Pair) (v : Word) : (s.setPair p v).fault = s.fault := by cases p <;> rfl
@[simp] theorem State.setPair_mem (p : Pair) (v : Word) : (s.setPair p v).mem = s.mem := by cases p <;> rfl
@[simp] theorem State.setPair_cycles (p : Pair) (v : Word) : (s.setPair p v).cycles = s.cycles := by cases p <;> rfl
@[simp] theorem State.setPair_bus (p : Pair) (v : Word) : (s.setPair p v).bus = s.bus := by cases p <;> rfl
@[simp] theorem State.setPair_config (p : Pair) (v : Word) : (s.setPair p v).config = s.config := by cases p <;> rfl

@[simp] theorem State.setStackPair_sp (p : StackPair) (v : Word) : (s.setStackPair p v).sp = s.sp := by cases p <;> rfl
@[simp] theorem State.setStackPair_pc (p : StackPair) (v : Word) : (s.setStackPair p v).pc = s.pc := by cases p <;> rfl
@[simp] theorem State.setStackPair_ime (p : StackPair) (v : Word) : (s.setStackPair p v).ime = s.ime := by cases p <;> rfl
@[simp] theorem State.setStackPair_mode (p : StackPair) (v : Word) : (s.setStackPair p v).mode = s.mode := by cases p <;> rfl
@[simp] theorem State.setStackPair_eiPending (p : StackPair) (v : Word) : (s.setStackPair p v).eiPending = s.eiPending := by cases p <;> rfl
@[simp] theorem State.setStackPair_haltBug (p : StackPair) (v : Word) : (s.setStackPair p v).haltBug = s.haltBug := by cases p <;> rfl
@[simp] theorem State.setStackPair_fault (p : StackPair) (v : Word) : (s.setStackPair p v).fault = s.fault := by cases p <;> rfl
@[simp] theorem State.setStackPair_mem (p : StackPair) (v : Word) : (s.setStackPair p v).mem = s.mem := by cases p <;> rfl
@[simp] theorem State.setStackPair_cycles (p : StackPair) (v : Word) : (s.setStackPair p v).cycles = s.cycles := by cases p <;> rfl
@[simp] theorem State.setStackPair_bus (p : StackPair) (v : Word) : (s.setStackPair p v).bus = s.bus := by cases p <;> rfl
@[simp] theorem State.setStackPair_config (p : StackPair) (v : Word) : (s.setStackPair p v).config = s.config := by cases p <;> rfl

/-- A pair popped into holds the word, F with its low nibble 0; every other pair holds what it held (R167). -/
theorem State.stackPair_setStackPair (p q : StackPair) (v : Word) : (s.setStackPair p v).stackPair q =
    if q = p then (if p = .af then joinBytes (highByte v) (lowByte v &&& 0xF0#8) else v) else s.stackPair q := by
  cases p <;> cases q <;>
    simp [State.setStackPair, State.stackPair, State.bc, State.de, State.hl, State.af, BitVec.and_assoc]

/-! ### Flags (R16) -/

/-- A written flag is what was written, every other one is what it was. -/
@[simp] theorem State.flag_setFlag (k j : Flag) (v : Bool) : (s.setFlag k v).flag j = if j = k then v else s.flag j := by
  by_cases h : j = k
  · subst h; simp [State.flag, State.setFlag, bitAt_putBit_same _ _ _ (Flag.bit_lt j)]
  · simp [State.flag, State.setFlag, h, bitAt_putBit_other _ _ _ _ (Flag.bit_injective h)]

@[simp] theorem State.flag_setNH (j : Flag) (n h : Bool) : (s.setNH n h).flag j =
    match j with | .n => n | .h => h | .z => s.flag .z | .c => s.flag .c := by
  cases j <;> simp [State.setNH]

@[simp] theorem State.flag_setZNH (j : Flag) (z n h : Bool) : (s.setZNH z n h).flag j =
    match j with | .z => z | .n => n | .h => h | .c => s.flag .c := by
  cases j <;> simp [State.setZNH]

@[simp] theorem State.flag_setNHC (j : Flag) (n h c : Bool) : (s.setNHC n h c).flag j =
    match j with | .n => n | .h => h | .c => c | .z => s.flag .z := by
  cases j <;> simp [State.setNHC]

@[simp] theorem State.flag_setFlags (j : Flag) (z n h c : Bool) : (s.setFlags z n h c).flag j =
    match j with | .z => z | .n => n | .h => h | .c => c := by
  cases j <;> simp [State.setFlags]

/-- Writing flags keeps the low nibble of F (R17). -/
theorem State.setFlag_low (k : Flag) (v : Bool) : (s.setFlag k v).f &&& 0x0F#8 = s.f &&& 0x0F#8 := lowNibble_putBit s.f k v

theorem State.setNH_low (n h : Bool) : (s.setNH n h).f &&& 0x0F#8 = s.f &&& 0x0F#8 := by
  rw [State.setNH, State.setFlag_low, State.setFlag_low]

theorem State.setZNH_low (z n h : Bool) : (s.setZNH z n h).f &&& 0x0F#8 = s.f &&& 0x0F#8 := by
  rw [State.setZNH, State.setNH_low, State.setFlag_low]

theorem State.setNHC_low (n h c : Bool) : (s.setNHC n h c).f &&& 0x0F#8 = s.f &&& 0x0F#8 := by
  rw [State.setNHC, State.setFlag_low, State.setNH_low]

theorem State.setFlags_low (z n h c : Bool) : (s.setFlags z n h c).f &&& 0x0F#8 = s.f &&& 0x0F#8 := by
  rw [State.setFlags, State.setFlag_low, State.setZNH_low]

/-! ### The bus (R30 to R34) -/

/-- A byte read depends on the bytes behind the bus alone. -/
theorem State.busRead_congr {s t : State} (h : s.mem = t.mem) (x : Word) : s.busRead x = t.busRead x := by
  rw [State.busRead, State.busRead, h]

/-- A read after a write (R33). -/
@[simp] theorem State.busRead_memWrite (addr x : Word) (v : Byte) :
    (s.memWrite addr v).busRead x = if x = addr then v else s.busRead x := by
  simp [State.busRead, Memory.read_write, BitVec.toNat_inj]

@[simp] theorem State.busRead_deviceWrite (addr x : Word) (v : Byte) :
    (s.deviceWrite addr v).busRead x = if x = addr then v else s.busRead x := by
  simp [State.busRead, Memory.read_write, BitVec.toNat_inj]

/-- A read after a store of a word: the high byte at the next address, the low byte at the address (R33, R34). -/
@[simp] theorem State.busRead_write16 (addr v x : Word) : (s.write16 addr v).busRead x =
    if x = addr + 1 then highByte v else if x = addr then lowByte v else s.busRead x := by
  simp [State.write16]

@[simp] theorem State.busRead_setR8 (r : R8) (v : Byte) (x : Word) : (s.setR8 r v).busRead x = s.busRead x :=
  State.busRead_congr (by simp) x

@[simp] theorem State.busRead_setPair (p : Pair) (v x : Word) : (s.setPair p v).busRead x = s.busRead x :=
  State.busRead_congr (by simp) x

@[simp] theorem State.busRead_setStackPair (p : StackPair) (v x : Word) : (s.setStackPair p v).busRead x = s.busRead x :=
  State.busRead_congr (by simp) x

@[simp] theorem State.memRead_fst (addr : Word) : (s.memRead addr).1 = s.busRead addr := rfl
@[simp] theorem State.memRead_snd (addr : Word) : (s.memRead addr).2 = s.logRead addr := rfl
@[simp] theorem State.read16_fst (addr : Word) : (s.read16 addr).1 = joinBytes (s.busRead (addr + 1)) (s.busRead addr) := rfl
@[simp] theorem State.read16_snd (addr : Word) : (s.read16 addr).2 = (s.logRead addr).logRead (addr + 1) := rfl

/-- A word stored is the word loaded from the same address (R33). -/
theorem State.read16_write16 (addr v : Word) : ((s.write16 addr v).read16 addr).1 = v := by
  simp

/-! ### The stack (R160, R161) -/

@[simp] theorem State.busRead_push16 (v x : Word) : (s.push16 v).busRead x =
    if x = s.sp - 2 + 1 then highByte v else if x = s.sp - 2 then lowByte v else s.busRead x := by
  simp [State.push16]

@[simp] theorem State.pop16_fst : s.pop16.1 = joinBytes (s.busRead (s.sp + 1)) (s.busRead s.sp) := rfl
@[simp] theorem State.pop16_snd : s.pop16.2 = ((s.logRead s.sp).logRead (s.sp + 1)).setSp (s.sp + 2) := rfl

/-- A pop after a push gives the word back, and SP (R161). -/
theorem State.pop16_push16 (v : Word) : (s.push16 v).pop16.1 = v ∧ (s.push16 v).pop16.2.sp = s.sp := by
  simp

/-! ### Operands (R50, R52) -/

@[simp] theorem State.readOperand_reg (r : R8) : s.readOperand (.reg r) = (s.r8 r, s) := rfl
@[simp] theorem State.readOperand_atHl : s.readOperand .atHl = (s.busRead s.hl, s.logRead s.hl) := rfl
@[simp] theorem State.writeOperand_reg (r : R8) (v : Byte) : s.writeOperand (.reg r) v = s.setR8 r v := rfl
@[simp] theorem State.writeOperand_atHl (v : Byte) : s.writeOperand .atHl v = s.memWrite s.hl v := rfl

/-! ### The canonical form of the memory -/

/-- Whatever the core or a device writes, the memory stays in canonical form. -/
theorem State.memWrite_wf (addr : Word) (v : Byte) (h : s.mem.wf = true) : (s.memWrite addr v).mem.wf = true :=
  Memory.wf_write v h addr.isLt

theorem State.deviceWrite_wf (addr : Word) (v : Byte) (h : s.mem.wf = true) : (s.deviceWrite addr v).mem.wf = true :=
  Memory.wf_write v h addr.isLt

theorem State.write16_wf (addr v : Word) (h : s.mem.wf = true) : (s.write16 addr v).mem.wf = true :=
  State.memWrite_wf _ _ _ (State.memWrite_wf _ _ _ h)

theorem State.push16_wf (v : Word) (h : s.mem.wf = true) : (s.push16 v).mem.wf = true :=
  State.write16_wf _ _ _ h

theorem State.writeOperand_wf (o : Operand8) (v : Byte) (h : s.mem.wf = true) : (s.writeOperand o v).mem.wf = true := by
  cases o with
  | reg r => simpa using h
  | atHl => exact State.memWrite_wf _ _ _ h

theorem State.takeInterrupt_wf (ifv pending : Byte) (h : s.mem.wf = true) : (s.takeInterrupt ifv pending).mem.wf = true :=
  State.push16_wf _ _ (State.memWrite_wf _ _ _ h)

/-! ### Interrupts and the fault (R195 to R197, R177, R188) -/

/-- What every byte reads as after the taking of an interrupt: PC on the stack, over the byte written to IF. -/
theorem State.busRead_takeInterrupt (ifv pending : Byte) (x : Word) : (s.takeInterrupt ifv pending).busRead x =
    if x = s.sp - 2 + 1 then highByte s.pc else if x = s.sp - 2 then lowByte s.pc
    else if x = ifAddr then clearBit ifv (sourceBit (lowestSource pending)) else s.busRead x := by
  simp [State.takeInterrupt]

/-- The taking of an interrupt writes IF, the stack, SP, PC, IME and EI's delay, and counts its cycles. -/
theorem State.takeInterrupt_eq (ifv pending : Byte) : s.takeInterrupt ifv pending =
    { s with
      ime := false
      eiPending := false
      sp := s.sp - 2
      pc := serviceAddress (lowestSource pending)
      mem := (s.takeInterrupt ifv pending).mem
      cycles := s.cycles + s.config.intDispatchCycles
      bus := s.bus ++ [.write ifAddr (clearBit ifv (sourceBit (lowestSource pending)))] ++
        [.write (s.sp - 2) (lowByte s.pc)] ++ [.write (s.sp - 2 + 1) (highByte s.pc)] } := by
  ext <;> simp [State.takeInterrupt]

/-- The return from an interrupt writes PC, SP, IME and EI's delay, and reads the stack. -/
theorem State.returnFromInterrupt_eq : s.returnFromInterrupt =
    { s with
      ime := true
      eiPending := false
      sp := s.sp + 2
      pc := joinBytes (s.busRead (s.sp + 1)) (s.busRead s.sp)
      bus := s.bus ++ [.read s.sp (s.busRead s.sp)] ++ [.read (s.sp + 1) (s.busRead (s.sp + 1))] } := by
  ext <;> simp [State.returnFromInterrupt]

/-- The raising of the fault never answers a next state. -/
theorem State.raiseInvalidOpcode_ne_next (opcode : Byte) (t : State) : s.raiseInvalidOpcode opcode ≠ .next t := by
  simp [State.raiseInvalidOpcode]

end Sys2Proof.Machine
end

