-- ==== Sys2Proof/Laws/Exec.lean ====
section
/-! SUPPORT. What exec does with every row of a rule, as one call of the rule's shared operation (the case split over the rows is made here,
once), and what the CB prefix does with a secondary opcode. -/

namespace Sys2Proof.Machine

variable (s : State)

/-! ### 8-bit arithmetic and logic -/

@[simp] theorem exec_aluReg (op : AluOp) (r : R8) : exec (aluReg op r) s = .next (s.alu op (s.r8 r)) := by
  cases op <;> cases r <;> rfl

@[simp] theorem exec_aluAtHl (op : AluOp) :
    exec (aluAtHl op) s = .next ((s.logRead s.hl).alu op (s.busRead s.hl)) := by cases op <;> rfl

@[simp] theorem exec_aluImm (op : AluOp) (n : Byte) : exec (aluImm op n) s = .next (s.alu op n) := by cases op <;> rfl

@[simp] theorem exec_incReg (r : R8) : exec (incReg r) s = incOperand (.reg r) s := by cases r <;> rfl
@[simp] theorem exec_decReg (r : R8) : exec (decReg r) s = decOperand (.reg r) s := by cases r <;> rfl

/-! ### 16-bit arithmetic, loads of pairs, the stack -/

@[simp] theorem exec_addHlPair (p : Pair) : exec (addHlPair p) s = addHl p s := by cases p <;> rfl
@[simp] theorem exec_incPair (p : Pair) : exec (incPair p) s = .next (s.setPair p (s.pair p + 1)) := by cases p <;> rfl
@[simp] theorem exec_decPair (p : Pair) : exec (decPair p) s = .next (s.setPair p (s.pair p - 1)) := by cases p <;> rfl
@[simp] theorem exec_ldPairImm (p : Pair) (n : Word) : exec (ldPairImm p n) s = .next (s.setPair p n) := by cases p <;> rfl
@[simp] theorem exec_pushPair (p : StackPair) : exec (pushPair p) s = .next (s.push16 (s.stackPair p)) := by cases p <;> rfl
@[simp] theorem exec_popPair (p : StackPair) : exec (popPair p) s = .next (s.pop16.2.setStackPair p s.pop16.1) := by
  cases p <;> rfl

/-! ### Rotates, shifts, bits -/

@[simp] theorem exec_shiftReg (op : ShiftOp) (r : R8) : exec (shiftRegInstr op r) s = shiftOperand op (.reg r) s := by
  cases op <;> cases r <;> rfl
@[simp] theorem exec_shiftAtHl (op : ShiftOp) : exec (shiftAtHlInstr op) s = shiftOperand op .atHl s := by cases op <;> rfl
@[simp] theorem exec_bitReg (k : BitNumber) (r : R8) : exec (bitRegInstr k r) s = bitOperand k (.reg r) s := by
  cases k <;> cases r <;> rfl
@[simp] theorem exec_bitAtHl (k : BitNumber) : exec (bitAtHlInstr k) s = bitOperand k .atHl s := by cases k <;> rfl
@[simp] theorem exec_resReg (k : BitNumber) (r : R8) : exec (resRegInstr k r) s = resOperand k (.reg r) s := by
  cases k <;> cases r <;> rfl
@[simp] theorem exec_resAtHl (k : BitNumber) : exec (resAtHlInstr k) s = resOperand k .atHl s := by cases k <;> rfl
@[simp] theorem exec_setReg (k : BitNumber) (r : R8) : exec (setRegInstr k r) s = setOperand k (.reg r) s := by
  cases k <;> cases r <;> rfl
@[simp] theorem exec_setAtHl (k : BitNumber) : exec (setAtHlInstr k) s = setOperand k .atHl s := by cases k <;> rfl

/-! ### 8-bit loads -/

@[simp] theorem exec_ldRegReg (dst r : R8) : exec (ldRegReg dst r) s = .next (s.setR8 dst (s.r8 r)) := by
  cases dst <;> cases r <;> rfl
@[simp] theorem exec_ldRegImm (dst : R8) (n : Byte) : exec (ldRegImm dst n) s = .next (s.setR8 dst n) := by cases dst <;> rfl
@[simp] theorem exec_ldRegAtHl (dst : R8) :
    exec (ldRegAtHl dst) s = .next ((s.logRead s.hl).setR8 dst (s.busRead s.hl)) := by
  cases dst <;> rfl
@[simp] theorem exec_ldAtHlReg (r : R8) : exec (ldAtHlReg r) s = .next (s.memWrite s.hl (s.r8 r)) := by cases r <;> rfl

/-! ### Control -/

@[simp] theorem exec_jrCond (cc : Cond) (e : Byte) : exec (jrCond cc e) s = jumpIf cc (s.relativeTarget e) s := by
  cases cc <;> rfl
@[simp] theorem exec_jpCond (cc : Cond) (a : Word) : exec (jpCond cc a) s = jumpIf cc a s := by cases cc <;> rfl
@[simp] theorem exec_callCond (cc : Cond) (a : Word) : exec (callCond cc a) s = callIf cc a s := by cases cc <;> rfl
@[simp] theorem exec_retCond (cc : Cond) : exec (retCond cc) s = retIf cc s := by cases cc <;> rfl
@[simp] theorem exec_rst (y : RstTarget) : exec (rstInstr y) s = .next (s.call (rstAddress y)) := by cases y <;> rfl
@[simp] theorem exec_illegal (k : IllegalOp) : exec (illegalInstr k) s = s.raiseInvalidOpcode (illegalByte k) := by
  cases k <;> rfl

end Sys2Proof.Machine
end

