-- ==== Sys2Proof/Laws/Frame.lean ====
section
/-! SUPPORT. What every instruction but DI, RETI, EI, HALT and STOP keeps, proved once per shared operation and then of exec by its
arms. -/

namespace Sys2Proof.Machine

/-- What an ordinary instruction keeps: IME, the mode, EI's delay, HALT's bug, the fault and the parameters; the canonical form of the
memory; the low nibble of F, or 0 in it. The cycle count never falls. -/
structure Ordinary (s t : State) : Prop where
  ime : t.ime = s.ime
  mode : t.mode = s.mode
  eiPending : t.eiPending = s.eiPending
  haltBug : t.haltBug = s.haltBug
  fault : t.fault = s.fault
  config : t.config = s.config
  mem : s.mem.wf = true → t.mem.wf = true
  low : s.f &&& 0x0F#8 = 0#8 → t.f &&& 0x0F#8 = 0#8
  cycles : s.cycles ≤ t.cycles

theorem Ordinary.refl (s : State) : Ordinary s s := ⟨rfl, rfl, rfl, rfl, rfl, rfl, id, id, le_rfl⟩

theorem Ordinary.trans {s t u : State} (h : Ordinary s t) (k : Ordinary t u) : Ordinary s u :=
  ⟨k.ime.trans h.ime, k.mode.trans h.mode, k.eiPending.trans h.eiPending, k.haltBug.trans h.haltBug, k.fault.trans h.fault,
    k.config.trans h.config, k.mem ∘ h.mem, k.low ∘ h.low, h.cycles.trans k.cycles⟩

variable (s : State)

/-! ### The operations -/

theorem setR8_ordinary (r : R8) (v : Byte) : Ordinary s (s.setR8 r v) := by constructor <;> simp
theorem setPair_ordinary (p : Pair) (v : Word) : Ordinary s (s.setPair p v) := by constructor <;> simp
theorem setHl_ordinary (v : Word) : Ordinary s (s.setHl v) := by constructor <;> simp
theorem setSp_ordinary (v : Word) : Ordinary s (s.setSp v) := by constructor <;> simp
theorem setPc_ordinary (v : Word) : Ordinary s (s.setPc v) := by constructor <;> simp
theorem charge_ordinary (n : Nat) : Ordinary s (s.charge n) := by constructor <;> simp
theorem logRead_ordinary (addr : Word) : Ordinary s (s.logRead addr) := by constructor <;> simp

theorem setStackPair_ordinary (p : StackPair) (v : Word) : Ordinary s (s.setStackPair p v) := by
  constructor
  case low =>
    cases p
    · exact id
    · exact id
    · exact id
    · exact fun _ => and_F0_lowNibble _
  all_goals simp

theorem memWrite_ordinary (addr : Word) (v : Byte) : Ordinary s (s.memWrite addr v) :=
  ⟨rfl, rfl, rfl, rfl, rfl, rfl, s.memWrite_wf addr v, id, le_rfl⟩

theorem write16_ordinary (addr v : Word) : Ordinary s (s.write16 addr v) :=
  (memWrite_ordinary _ _ _).trans (memWrite_ordinary _ _ _)

theorem setFlag_ordinary (k : Flag) (v : Bool) : Ordinary s (s.setFlag k v) :=
  ⟨rfl, rfl, rfl, rfl, rfl, rfl, id, fun h => (s.setFlag_low k v).trans h, le_rfl⟩

theorem setNH_ordinary (n h : Bool) : Ordinary s (s.setNH n h) := (setFlag_ordinary _ _ _).trans (setFlag_ordinary _ _ _)
theorem setZNH_ordinary (z n h : Bool) : Ordinary s (s.setZNH z n h) := (setFlag_ordinary _ _ _).trans (setNH_ordinary _ _ _)
theorem setNHC_ordinary (n h c : Bool) : Ordinary s (s.setNHC n h c) := (setNH_ordinary _ _ _).trans (setFlag_ordinary _ _ _)
theorem setFlags_ordinary (z n h c : Bool) : Ordinary s (s.setFlags z n h c) :=
  (setZNH_ordinary _ _ _ _).trans (setFlag_ordinary _ _ _)

theorem push16_ordinary (v : Word) : Ordinary s (s.push16 v) := (setSp_ordinary _ _).trans (write16_ordinary _ _ _)

theorem pop16_ordinary : Ordinary s s.pop16.2 :=
  ((logRead_ordinary _ _).trans (logRead_ordinary _ _)).trans (setSp_ordinary _ _)

theorem readOperand_ordinary (o : Operand8) : Ordinary s (s.readOperand o).2 := by
  cases o
  · exact Ordinary.refl s
  · exact logRead_ordinary s s.hl

theorem writeOperand_ordinary (o : Operand8) (v : Byte) : Ordinary s (s.writeOperand o v) := by
  cases o
  · exact setR8_ordinary s _ v
  · exact memWrite_ordinary s s.hl v

theorem alu_ordinary (op : AluOp) (v : Byte) : Ordinary s (s.alu op v) := by
  unfold State.alu
  dsimp only
  split
  · exact (setFlags_ordinary _ _ _ _ _).trans (setR8_ordinary _ _ _)
  · exact setFlags_ordinary _ _ _ _ _

theorem call_ordinary (target : Word) : Ordinary s (s.call target) := (push16_ordinary _ _).trans (setPc_ordinary _ _)
theorem ret_ordinary : Ordinary s s.ret := (pop16_ordinary _).trans (setPc_ordinary _ _)
theorem signedAddFlags_ordinary (e : Byte) : Ordinary s (s.signedAddFlags e) := setFlags_ordinary _ _ _ _ _

/-! ### The shared meanings -/

/-- An outcome that is a next state an ordinary instruction could give, or no next state at all. -/
abbrev OrdinaryResult (s : State) (r : Result) : Prop := ∀ t, r = .next t → Ordinary s t

theorem next_ordinary {s u : State} (h : Ordinary s u) : OrdinaryResult s (.next u) := by
  rintro t ⟨⟩; exact h

theorem raise_ordinary (opcode : Byte) : OrdinaryResult s (s.raiseInvalidOpcode opcode) :=
  fun t h => absurd h (s.raiseInvalidOpcode_ne_next opcode t)

theorem incOperand_ordinary (o : Operand8) : OrdinaryResult s (incOperand o s) :=
  next_ordinary (((readOperand_ordinary _ _).trans (writeOperand_ordinary _ _ _)).trans (setZNH_ordinary _ _ _ _))

theorem decOperand_ordinary (o : Operand8) : OrdinaryResult s (decOperand o s) :=
  next_ordinary (((readOperand_ordinary _ _).trans (writeOperand_ordinary _ _ _)).trans (setZNH_ordinary _ _ _ _))

theorem daa_ordinary : OrdinaryResult s (execDaa s) :=
  next_ordinary ((((setR8_ordinary _ _ _).trans (setFlag_ordinary _ _ _)).trans (setFlag_ordinary _ _ _)).trans
    (setFlag_ordinary _ _ _))

theorem cpl_ordinary : OrdinaryResult s (execCpl s) := next_ordinary ((setR8_ordinary _ _ _).trans (setNH_ordinary _ _ _))
theorem scf_ordinary : OrdinaryResult s (execScf s) := next_ordinary (setNHC_ordinary _ _ _ _)
theorem ccf_ordinary : OrdinaryResult s (execCcf s) := next_ordinary (setNHC_ordinary _ _ _ _)

theorem addHl_ordinary (p : Pair) : OrdinaryResult s (addHl p s) :=
  next_ordinary ((setHl_ordinary _ _).trans (setNHC_ordinary _ _ _ _))

theorem addSpE8_ordinary (e : Byte) : OrdinaryResult s (execAddSpE8 e s) :=
  next_ordinary ((signedAddFlags_ordinary _ _).trans (setSp_ordinary _ _))

theorem ldHlSpE8_ordinary (e : Byte) : OrdinaryResult s (execLdHlSpE8 e s) :=
  next_ordinary ((signedAddFlags_ordinary _ _).trans (setHl_ordinary _ _))

theorem rotateA_ordinary (op : ShiftOp) : OrdinaryResult s (rotateA op s) :=
  next_ordinary ((setR8_ordinary _ _ _).trans (setFlags_ordinary _ _ _ _ _))

theorem shiftOperand_ordinary (op : ShiftOp) (o : Operand8) : OrdinaryResult s (shiftOperand op o s) :=
  next_ordinary (((readOperand_ordinary _ _).trans (writeOperand_ordinary _ _ _)).trans (setFlags_ordinary _ _ _ _ _))

theorem bitOperand_ordinary (k : BitNumber) (o : Operand8) : OrdinaryResult s (bitOperand k o s) :=
  next_ordinary ((readOperand_ordinary _ _).trans (setZNH_ordinary _ _ _ _))

theorem resOperand_ordinary (k : BitNumber) (o : Operand8) : OrdinaryResult s (resOperand k o s) :=
  next_ordinary ((readOperand_ordinary _ _).trans (writeOperand_ordinary _ _ _))

theorem setOperand_ordinary (k : BitNumber) (o : Operand8) : OrdinaryResult s (setOperand k o s) :=
  next_ordinary ((readOperand_ordinary _ _).trans (writeOperand_ordinary _ _ _))

theorem executeCb_ordinary (k : Byte) : OrdinaryResult s (executeCb k s) := by
  unfold executeCb
  dsimp only
  split
  · exact shiftOperand_ordinary _ _ _
  · exact bitOperand_ordinary _ _ _
  · exact resOperand_ordinary _ _ _
  · exact setOperand_ordinary _ _ _

theorem ldImmediate_ordinary (dst : Operand8) (n : Byte) : OrdinaryResult s (ldImmediate dst n s) :=
  next_ordinary (writeOperand_ordinary _ _ _)

theorem ldAFrom_ordinary (addr : Word) : OrdinaryResult s (ldAFrom addr s) :=
  next_ordinary ((logRead_ordinary _ _).trans (setR8_ordinary _ _ _))

theorem stAAt_ordinary (addr : Word) : OrdinaryResult s (stAAt addr s) := next_ordinary (memWrite_ordinary _ _ _)

theorem ldAStep_ordinary (d : Word) : OrdinaryResult s (ldAStep d s) :=
  next_ordinary (((logRead_ordinary _ _).trans (setR8_ordinary _ _ _)).trans (setHl_ordinary _ _))

theorem stAStep_ordinary (d : Word) : OrdinaryResult s (stAStep d s) :=
  next_ordinary ((memWrite_ordinary _ _ _).trans (setHl_ordinary _ _))

theorem ldAtA16Sp_ordinary (a : Word) : OrdinaryResult s (execLdAtA16Sp a s) := next_ordinary (write16_ordinary _ _ _)
theorem ldSpHl_ordinary : OrdinaryResult s (execLdSpHl s) := next_ordinary (setSp_ordinary _ _)

theorem popWide_ordinary (p : StackPair) : OrdinaryResult s (popWide p s) :=
  next_ordinary ((pop16_ordinary _).trans (setStackPair_ordinary _ _ _))

theorem setPcNext_ordinary (a : Word) : OrdinaryResult s (.next (s.setPc a)) := next_ordinary (setPc_ordinary _ _)
theorem callNext_ordinary (a : Word) : OrdinaryResult s (.next (s.call a)) := next_ordinary (call_ordinary _ _)
theorem retNext_ordinary : OrdinaryResult s (execRet s) := next_ordinary (ret_ordinary _)
theorem nop_ordinary : OrdinaryResult s (execNop s) := next_ordinary (Ordinary.refl s)

theorem jumpIf_ordinary (cc : Cond) (a : Word) : OrdinaryResult s (jumpIf cc a s) := by
  unfold jumpIf
  split
  · exact next_ordinary ((setPc_ordinary _ _).trans (charge_ordinary _ _))
  · exact next_ordinary (Ordinary.refl s)

theorem callIf_ordinary (cc : Cond) (a : Word) : OrdinaryResult s (callIf cc a s) := by
  unfold callIf
  split
  · exact next_ordinary ((call_ordinary _ _).trans (charge_ordinary _ _))
  · exact next_ordinary (Ordinary.refl s)

theorem retIf_ordinary (cc : Cond) : OrdinaryResult s (retIf cc s) := by
  unfold retIf
  split
  · exact next_ordinary ((ret_ordinary _).trans (charge_ordinary _ _))
  · exact next_ordinary (Ordinary.refl s)

/-! ### Every instruction -/

/-- Every instruction but DI, RETI, EI, HALT and STOP keeps what an ordinary instruction keeps. -/
theorem exec_ordinary (i : Instr) : OrdinaryResult s (exec i s) ∨
    i = .di ∨ i = .reti ∨ i = .ei ∨ i = .halt ∨ ∃ n, i = .stop n := by
  induction i using Instr.byRule
  case di => simp
  case reti => simp
  case ei => simp
  case halt => simp
  case stop n => simp
  all_goals left
  case ldRegReg dst src => rw [exec_ldRegReg]; exact next_ordinary (setR8_ordinary _ _ _)
  case ldRegImm dst n => rw [exec_ldRegImm]; exact next_ordinary (setR8_ordinary _ _ _)
  case ldRegAtHl dst => rw [exec_ldRegAtHl]; exact next_ordinary ((logRead_ordinary _ _).trans (setR8_ordinary _ _ _))
  case ldAtHlReg src => rw [exec_ldAtHlReg]; exact next_ordinary (memWrite_ordinary _ _ _)
  case aluReg op r => rw [exec_aluReg]; exact next_ordinary (alu_ordinary _ _ _)
  case aluAtHl op => rw [exec_aluAtHl]; exact next_ordinary ((logRead_ordinary _ _).trans (alu_ordinary _ _ _))
  case aluImm op n => rw [exec_aluImm]; exact next_ordinary (alu_ordinary _ _ _)
  case incReg r => rw [exec_incReg]; exact incOperand_ordinary _ _
  case decReg r => rw [exec_decReg]; exact decOperand_ordinary _ _
  case addHlPair p => rw [exec_addHlPair]; exact addHl_ordinary _ _
  case incPair p => rw [exec_incPair]; exact next_ordinary (setPair_ordinary _ _ _)
  case decPair p => rw [exec_decPair]; exact next_ordinary (setPair_ordinary _ _ _)
  case ldPairImm p n => rw [exec_ldPairImm]; exact next_ordinary (setPair_ordinary _ _ _)
  case pushPair p => rw [exec_pushPair]; exact next_ordinary (push16_ordinary _ _)
  case popPair p => rw [exec_popPair]; exact popWide_ordinary _ _
  case shiftRegInstr op r => rw [exec_shiftReg]; exact shiftOperand_ordinary _ _ _
  case shiftAtHlInstr op => rw [exec_shiftAtHl]; exact shiftOperand_ordinary _ _ _
  case bitRegInstr k r => rw [exec_bitReg]; exact bitOperand_ordinary _ _ _
  case bitAtHlInstr k => rw [exec_bitAtHl]; exact bitOperand_ordinary _ _ _
  case resRegInstr k r => rw [exec_resReg]; exact resOperand_ordinary _ _ _
  case resAtHlInstr k => rw [exec_resAtHl]; exact resOperand_ordinary _ _ _
  case setRegInstr k r => rw [exec_setReg]; exact setOperand_ordinary _ _ _
  case setAtHlInstr k => rw [exec_setAtHl]; exact setOperand_ordinary _ _ _
  case jrCond cc e => rw [exec_jrCond]; exact jumpIf_ordinary _ _ _
  case jpCond cc a => rw [exec_jpCond]; exact jumpIf_ordinary _ _ _
  case callCond cc a => rw [exec_callCond]; exact callIf_ordinary _ _ _
  case retCond cc => rw [exec_retCond]; exact retIf_ordinary _ _
  case rstInstr y => rw [exec_rst]; exact next_ordinary (call_ordinary _ _)
  case illegalInstr k => rw [exec_illegal]; exact raise_ordinary _ _
  case addSpE8 e => exact addSpE8_ordinary _ _
  case ldAtHlN8 n => exact ldImmediate_ordinary _ .atHl _
  case ldAAtA16 a => exact ldAFrom_ordinary _ _
  case ldAtA16A a => exact stAAt_ordinary _ _
  case ldhAAtA8 o => exact ldAFrom_ordinary _ _
  case ldhAtA8A o => exact stAAt_ordinary _ _
  case ldAtA16Sp a => exact ldAtA16Sp_ordinary _ _
  case ldHlSpE8 e => exact ldHlSpE8_ordinary _ _
  case jpA16 a => exact setPcNext_ordinary _ _
  case jrE8 e => exact setPcNext_ordinary _ _
  case callA16 a => exact callNext_ordinary _ _
  case prefixCb k => exact executeCb_ordinary _ _
  case incAtHl => exact incOperand_ordinary _ _
  case decAtHl => exact decOperand_ordinary _ _
  case daa => exact daa_ordinary _
  case cpl => exact cpl_ordinary _
  case scf => exact scf_ordinary _
  case ccf => exact ccf_ordinary _
  case rlca => exact rotateA_ordinary _ _
  case rrca => exact rotateA_ordinary _ _
  case rla => exact rotateA_ordinary _ _
  case rra => exact rotateA_ordinary _ _
  case ldAAtBc => exact ldAFrom_ordinary _ _
  case ldAAtDe => exact ldAFrom_ordinary _ _
  case ldAtBcA => exact stAAt_ordinary _ _
  case ldAtDeA => exact stAAt_ordinary _ _
  case ldhAAtC => exact ldAFrom_ordinary _ _
  case ldhAtCA => exact stAAt_ordinary _ _
  case ldAAtHld => exact ldAStep_ordinary _ _
  case ldAtHldA => exact stAStep_ordinary _ _
  case ldAAtHli => exact ldAStep_ordinary _ _
  case ldAtHliA => exact stAStep_ordinary _ _
  case ldSpHl => exact ldSpHl_ordinary _
  case jpHl => exact setPcNext_ordinary _ _
  case ret => exact retNext_ordinary _
  case nop => exact nop_ordinary _

/-- No instruction lowers the cycle count: its own rule only ever adds extra cycles to the base cost (R60, R222). -/
theorem exec_cycles_le {i : Instr} {t : State} (h : exec i s = .next t) : s.cycles ≤ t.cycles := by
  obtain hi | rfl | rfl | rfl | rfl | ⟨n, rfl⟩ := exec_ordinary s i
  · exact (hi t h).cycles
  all_goals cases h
  case inr.inr.inr.inr.inl => dsimp only [State.pollForHalt]; split <;> exact le_rfl
  all_goals exact le_rfl

end Sys2Proof.Machine
end

