-- ==== Sys2Proof/Laws/Step.lean ====
section
/-! SUPPORT. What a step can do, said once (R60): it repeats a fault, idles, takes an interrupt, or fetches and executes; and what the
fetch, the check and the wake leave of the state. -/

namespace Sys2Proof.Machine

variable (s : State)

/-! ### The parts of a step -/

/-- A core that holds no fault steps by the rest of R60. -/
theorem step_of_no_fault {s : State} (h : s.fault = none) : step s = stepUnfaulted s.beginStep := by
  simp only [step, runStep, h]

@[simp] theorem State.beginStep_polls : s.beginStep.polls = s.polls := rfl
@[simp] theorem State.beginStep_pending : s.beginStep.pending = s.pending := rfl
@[simp] theorem State.beginStep_awake : s.beginStep.awake = s.awake := rfl

/-- The check's reads change nothing but the bus calls. -/
theorem State.polled_eq : s.polled =
    { s with bus := s.bus ++ [.read ifAddr (s.busRead ifAddr)] ++ [.read ieAddr (s.busRead ieAddr)] } := rfl

/-- A wake sets the mode and counts 4 cycles if the core was in a low-power state (R199, R200). -/
theorem State.wake_eq : s.wake =
    { s with mode := .running, cycles := s.cycles + if s.mode = .running then 0 else wakeCycles } := by
  cases h : s.mode <;> apply State.ext <;> simp [State.wake, h]

/-- The fetch's operand reads change nothing but the bus calls. -/
theorem State.logOperands_eq (op : Byte) : s.logOperands op = { s with bus := (s.logOperands op).bus } := by
  unfold State.logOperands
  split
  · rfl
  · split <;> rfl

/-- A fetch writes PC, HALT's bug and the bus calls, and nothing else (R61, R62). -/
theorem State.afterFetch_eq : s.afterFetch =
    { s with pc := s.pastInstruction (s.busRead s.pc), haltBug := false, bus := s.afterFetch.bus } := by
  unfold State.afterFetch
  dsimp only
  rw [State.logOperands_eq]
  rfl

/-- EI's delayed effect: IME is set, and no EI is due any more (R63). -/
theorem State.promoteEi_eq : s.promoteEi = { s with ime := s.ime || s.eiPending, eiPending := false } := by
  unfold State.promoteEi
  split
  · apply State.ext <;> simp [*]
  · apply State.ext <;> simp_all

/-- The state in which a fetched instruction executes (R60 to R63). -/
theorem State.readyToExecute_eq : s.readyToExecute =
    { s with
      pc := s.pastInstruction (s.busRead s.pc)
      haltBug := false
      ime := s.ime || s.eiPending
      eiPending := false
      bus := s.afterFetch.bus
      cycles := s.cycles + baseCycles s.config.cycles (s.busRead s.pc) (s.operandByte (s.busRead s.pc) 0) } := by
  rw [State.readyToExecute, State.promoteEi_eq, State.afterFetch_eq]
  rfl

/-! ### The cycles of a step -/

/-- An entry of a cycle table is positive where the SM83's is. -/
theorem cycleEntry_pos (entries : List CycleCount) (op : Byte) {past : Nat} (h : 0 < past) : 0 < cycleEntry entries op past := by
  unfold cycleEntry
  split
  · exact Subtype.property _
  · exact h

/-- The SM83 charges every legal opcode (R222). -/
theorem sm83Base_pos (op : Byte) : op ∉ illegalOpcodes → 0 < sm83Base op := by
  set_option maxRecDepth 8000 in
  exact byte_cases (P := fun op => op ∉ illegalOpcodes → 0 < sm83Base op) (by decide) op

/-- The base cost of a legal opcode is positive, under every cycle table (R7, R222, R223). -/
theorem baseCycles_pos (t : CycleTable) {op : Byte} (next : Byte) (h : op ∉ illegalOpcodes) : 0 < baseCycles t op next := by
  have hb : 0 < tableBase t op := by
    cases t with
    | sm83 => exact sm83Base_pos op h
    | other base secondary => exact cycleEntry_pos base op (sm83Base_pos op h)
  unfold baseCycles
  split
  · exact Nat.add_pos_left hb _
  · exact hb

/-- The taking of an interrupt counts a positive number of cycles (R7, R195). -/
theorem takeInterrupt_cycles_pos (ifv pending : Byte) : 0 < (s.takeInterrupt ifv pending).cycles := by
  rw [State.takeInterrupt_eq]
  exact Nat.add_pos_right _ s.config.intDispatchCycles.property

/-- An instruction begins its execution with a positive count (R7, R60). -/
theorem readyToExecute_cycles_pos (h : s.busRead s.pc ∉ illegalOpcodes) : 0 < s.readyToExecute.cycles := by
  rw [State.readyToExecute_eq]
  exact Nat.add_pos_right _ (baseCycles_pos _ _ h)

/-! ### What a step can do -/

/-- An idle step of a halted or stopped core (R198). -/
def Idles (s t : State) : Prop := s.mode ≠ .running ∧ s.awake = false ∧ t = s.beginStep.polled.charge idleCycles

/-- A step that takes an interrupt (R195). -/
def TakesInterrupt (s t : State) : Prop := s.awake = true ∧ s.ime = true ∧ s.pending ≠ 0#8 ∧
    t = s.beginStep.polled.wake.takeInterrupt (s.busRead ifAddr) s.pending

/-- The state in which a step's fetch begins: after the check and the wake, or at once if nothing is checked. -/
def State.atFetch (s : State) : State := if s.polls then s.beginStep.polled.wake else s.beginStep

/-- A step of a core with no fault idles, takes an interrupt, or comes to a fetch. -/
theorem step_cases {s : State} (h : s.fault = none) :
    (∃ t, Idles s t ∧ step s = .next t) ∨ (∃ t, TakesInterrupt s t ∧ step s = .next t) ∨
    (s.awake = true ∧ (s.ime = true → s.pending = 0#8) ∧ step s = fetchExecute s.mode s.atFetch) := by
  rw [step_of_no_fault h, stepUnfaulted, State.atFetch]
  by_cases hp : s.polls = true
  · by_cases ha : s.awake = true
    · by_cases hi : (s.ime && s.pending != 0#8) = true
      · refine .inr (.inl ⟨_, ⟨ha, ?_, ?_, rfl⟩, ?_⟩) <;> simp_all
      · refine .inr (.inr ⟨ha, ?_, ?_⟩) <;> simp_all
    · refine .inl ⟨_, ⟨?_, by simpa using ha, rfl⟩, ?_⟩
      · intro hm; simp [State.awake, hm] at ha
      · simp_all
  · refine .inr (.inr ⟨?_, ?_, ?_⟩)
    · have hm : s.mode = .running := by simp_all [State.polls]
      simp [State.awake, hm]
    · intro hi; simp [State.polls, hi] at hp
    · simp_all

/-- A fetch begins in a running core, with nothing else changed but the bus calls and the cycles. -/
theorem State.atFetch_eq : s.atFetch =
    { s with mode := .running, cycles := s.atFetch.cycles, bus := s.atFetch.bus } := by
  unfold State.atFetch
  split
  · rw [State.wake_eq]; rfl
  · rename_i hp
    have hm : s.mode = .running := by simp_all [State.polls]
    rw [← hm]; rfl

/-- The instruction at PC is an illegal one where the byte there is an illegal opcode (R56). -/
theorem fetched_illegal (h : isIllegal (s.busRead s.pc) = true) : ∃ k, s.fetched = illegalInstr k := by
  have h : s.busRead s.pc ∈ illegalOpcodes := by simpa [isIllegal] using h
  unfold State.fetched
  dsimp only
  simp only [illegalOpcodes, List.mem_cons, List.not_mem_nil, or_false] at h
  rcases h with h | h | h | h | h | h | h | h | h | h | h <;> rw [h]
  exacts [⟨.xD3, rfl⟩, ⟨.xDB, rfl⟩, ⟨.xDD, rfl⟩, ⟨.xE3, rfl⟩, ⟨.xE4, rfl⟩, ⟨.xEB, rfl⟩, ⟨.xEC, rfl⟩, ⟨.xED, rfl⟩, ⟨.xF4, rfl⟩,
    ⟨.xFC, rfl⟩, ⟨.xFD, rfl⟩]

/-- A fetch that gives a next state executed a legal instruction, in the state R60 to R63 prepare. -/
theorem fetchExecute_next {m : Mode} {s t : State} (h : fetchExecute m s = .next t) : exec s.fetched s.readyToExecute = .next t := by
  unfold fetchExecute at h
  split at h
  · obtain ⟨k, hk⟩ := fetched_illegal s ‹_›
    rw [hk, exec_illegal] at h
    exact absurd h (State.raiseInvalidOpcode_ne_next _ _ _)
  · exact h

/-- A step that gives a next state started from no fault and is one of three: idle, the taking of an interrupt, the execution of the
instruction at PC. -/
theorem step_next {s t : State} (h : step s = .next t) : s.fault = none ∧
    (Idles s t ∨ TakesInterrupt s t ∨ exec s.atFetch.fetched s.atFetch.readyToExecute = .next t) := by
  cases hf : s.fault with
  | some x => simp [step, runStep, hf] at h
  | none =>
    refine ⟨rfl, ?_⟩
    obtain ⟨u, hu, e⟩ | ⟨u, hu, e⟩ | ⟨_, _, e⟩ := step_cases hf
    · rw [e] at h; cases h; exact .inl hu
    · rw [e] at h; cases h; exact .inr (.inl hu)
    · rw [e] at h; exact .inr (.inr (fetchExecute_next h))

end Sys2Proof.Machine
end

