-- ==== Sys2Proof/Tests/Slice0.lean ====
section
/-! SUPPORT. The package's own tests. Expected results come from outside the model: the words from the match column of spec/opcode_table.json
and from the rules' encoding lines, the vectors V1 to V142 and I3 to I13 from spec/95_test_vectors.md (each test's name ends in its vector's
name), the rest by hand from the rule named. The last part holds a witness for every obligation with hypotheses. -/

namespace Sys2Proof.Tests

open Sys2Proof.Machine Sys2Proof.Claims

/-! ### WellFormed -/

/-- The one check: the prefix with a secondary opcode in its hands is no instruction of its own (R46, log entry 8). -/
theorem test_wellFormed_refuses_prefix : ¬ WellFormed (.prefixCb 0x37) := by decide
theorem test_wellFormed_takes_the_secondary_row : WellFormed .swapA := by decide

/-! ### Decoding: every row of the opcode table by its word, a row of a map in each test -/

/-- Does the decoder read these instructions from these words of the table? -/
def reads (nbits : Nat) (first : Nat) (row : List Instr) : Bool :=
  (List.range row.length).all fun k => decodeTableWord nbits (first + k) == row[k]?

theorem test_words_0x : reads 8 0x00
  [.nop, .ldBcN16 0, .ldAtBcA, .incBc, .incB, .decB, .ldBN8 0, .rlca,
   .ldAtA16Sp 0, .addHlBc, .ldAAtBc, .decBc, .incC, .decC, .ldCN8 0, .rrca] = true := by decide
theorem test_words_1x : reads 8 0x10
  [.stop 0, .ldDeN16 0, .ldAtDeA, .incDe, .incD, .decD, .ldDN8 0, .rla,
   .jrE8 0, .addHlDe, .ldAAtDe, .decDe, .incE, .decE, .ldEN8 0, .rra] = true := by decide
theorem test_words_2x : reads 8 0x20
  [.jrNzE8 0, .ldHlN16 0, .ldAtHliA, .incHl, .incH, .decH, .ldHN8 0, .daa,
   .jrZE8 0, .addHlHl, .ldAAtHli, .decHl, .incL, .decL, .ldLN8 0, .cpl] = true := by decide
theorem test_words_3x : reads 8 0x30
  [.jrNcE8 0, .ldSpN16 0, .ldAtHldA, .incSp, .incAtHl, .decAtHl, .ldAtHlN8 0, .scf,
   .jrCE8 0, .addHlSp, .ldAAtHld, .decSp, .incA, .decA, .ldAN8 0, .ccf] = true := by decide
theorem test_words_4x : reads 8 0x40
  [.ldBB, .ldBC, .ldBD, .ldBE, .ldBH, .ldBL, .ldBAtHl, .ldBA,
   .ldCB, .ldCC, .ldCD, .ldCE, .ldCH, .ldCL, .ldCAtHl, .ldCA] = true := by decide
theorem test_words_5x : reads 8 0x50
  [.ldDB, .ldDC, .ldDD, .ldDE, .ldDH, .ldDL, .ldDAtHl, .ldDA,
   .ldEB, .ldEC, .ldED, .ldEE, .ldEH, .ldEL, .ldEAtHl, .ldEA] = true := by decide
theorem test_words_6x : reads 8 0x60
  [.ldHB, .ldHC, .ldHD, .ldHE, .ldHH, .ldHL, .ldHAtHl, .ldHA,
   .ldLB, .ldLC, .ldLD, .ldLE, .ldLH, .ldLL, .ldLAtHl, .ldLA] = true := by decide
theorem test_words_7x : reads 8 0x70
  [.ldAtHlB, .ldAtHlC, .ldAtHlD, .ldAtHlE, .ldAtHlH, .ldAtHlL, .halt, .ldAtHlA,
   .ldAB, .ldAC, .ldAD, .ldAE, .ldAH, .ldAL, .ldAAtHl, .ldAA] = true := by decide
theorem test_words_8x : reads 8 0x80
  [.addAB, .addAC, .addAD, .addAE, .addAH, .addAL, .addAAtHl, .addAA,
   .adcAB, .adcAC, .adcAD, .adcAE, .adcAH, .adcAL, .adcAAtHl, .adcAA] = true := by decide
theorem test_words_9x : reads 8 0x90
  [.subB, .subC, .subD, .subE, .subH, .subL, .subAtHl, .subA,
   .sbcAB, .sbcAC, .sbcAD, .sbcAE, .sbcAH, .sbcAL, .sbcAAtHl, .sbcAA] = true := by decide
theorem test_words_Ax : reads 8 0xA0
  [.andB, .andC, .andD, .andE, .andH, .andL, .andAtHl, .andA,
   .xorB, .xorC, .xorD, .xorE, .xorH, .xorL, .xorAtHl, .xorA] = true := by decide
theorem test_words_Bx : reads 8 0xB0
  [.orB, .orC, .orD, .orE, .orH, .orL, .orAtHl, .orA,
   .cpB, .cpC, .cpD, .cpE, .cpH, .cpL, .cpAtHl, .cpA] = true := by decide
/-- 0xCB alone, with operand words of zeros, is the prefix with the secondary opcode 0x00 (log entry 8). -/
theorem test_words_Cx : reads 8 0xC0
  [.retNz, .popBc, .jpNzA16 0, .jpA16 0, .callNzA16 0, .pushBc, .addAN8 0, .rst00,
   .retZ, .ret, .jpZA16 0, .rlcB, .callZA16 0, .callA16 0, .adcAN8 0, .rst08] = true := by decide
theorem test_words_Dx : reads 8 0xD0
  [.retNc, .popDe, .jpNcA16 0, .illegalD3, .callNcA16 0, .pushDe, .subN8 0, .rst10,
   .retC, .reti, .jpCA16 0, .illegalDB, .callCA16 0, .illegalDD, .sbcAN8 0, .rst18] = true := by decide
theorem test_words_Ex : reads 8 0xE0
  [.ldhAtA8A 0, .popHl, .ldhAtCA, .illegalE3, .illegalE4, .pushHl, .andN8 0, .rst20,
   .addSpE8 0, .jpHl, .ldAtA16A 0, .illegalEB, .illegalEC, .illegalED, .xorN8 0, .rst28] = true := by decide
theorem test_words_Fx : reads 8 0xF0
  [.ldhAAtA8 0, .popAf, .ldhAAtC, .di, .illegalF4, .pushAf, .orN8 0, .rst30,
   .ldHlSpE8 0, .ldSpHl, .ldAAtA16 0, .ei, .illegalFC, .illegalFD, .cpN8 0, .rst38] = true := by decide
theorem test_words_CB_0x : reads 16 0xCB00
  [.rlcB, .rlcC, .rlcD, .rlcE, .rlcH, .rlcL, .rlcAtHl, .rlcA,
   .rrcB, .rrcC, .rrcD, .rrcE, .rrcH, .rrcL, .rrcAtHl, .rrcA] = true := by decide
theorem test_words_CB_1x : reads 16 0xCB10
  [.rlB, .rlC, .rlD, .rlE, .rlH, .rlL, .rlAtHl, .rlA,
   .rrB, .rrC, .rrD, .rrE, .rrH, .rrL, .rrAtHl, .rrA] = true := by decide
theorem test_words_CB_2x : reads 16 0xCB20
  [.slaB, .slaC, .slaD, .slaE, .slaH, .slaL, .slaAtHl, .slaA,
   .sraB, .sraC, .sraD, .sraE, .sraH, .sraL, .sraAtHl, .sraA] = true := by decide
theorem test_words_CB_3x : reads 16 0xCB30
  [.swapB, .swapC, .swapD, .swapE, .swapH, .swapL, .swapAtHl, .swapA,
   .srlB, .srlC, .srlD, .srlE, .srlH, .srlL, .srlAtHl, .srlA] = true := by decide
theorem test_words_CB_4x : reads 16 0xCB40
  [.bit0B, .bit0C, .bit0D, .bit0E, .bit0H, .bit0L, .bit0AtHl, .bit0A,
   .bit1B, .bit1C, .bit1D, .bit1E, .bit1H, .bit1L, .bit1AtHl, .bit1A] = true := by decide
theorem test_words_CB_5x : reads 16 0xCB50
  [.bit2B, .bit2C, .bit2D, .bit2E, .bit2H, .bit2L, .bit2AtHl, .bit2A,
   .bit3B, .bit3C, .bit3D, .bit3E, .bit3H, .bit3L, .bit3AtHl, .bit3A] = true := by decide
theorem test_words_CB_6x : reads 16 0xCB60
  [.bit4B, .bit4C, .bit4D, .bit4E, .bit4H, .bit4L, .bit4AtHl, .bit4A,
   .bit5B, .bit5C, .bit5D, .bit5E, .bit5H, .bit5L, .bit5AtHl, .bit5A] = true := by decide
theorem test_words_CB_7x : reads 16 0xCB70
  [.bit6B, .bit6C, .bit6D, .bit6E, .bit6H, .bit6L, .bit6AtHl, .bit6A,
   .bit7B, .bit7C, .bit7D, .bit7E, .bit7H, .bit7L, .bit7AtHl, .bit7A] = true := by decide
theorem test_words_CB_8x : reads 16 0xCB80
  [.res0B, .res0C, .res0D, .res0E, .res0H, .res0L, .res0AtHl, .res0A,
   .res1B, .res1C, .res1D, .res1E, .res1H, .res1L, .res1AtHl, .res1A] = true := by decide
theorem test_words_CB_9x : reads 16 0xCB90
  [.res2B, .res2C, .res2D, .res2E, .res2H, .res2L, .res2AtHl, .res2A,
   .res3B, .res3C, .res3D, .res3E, .res3H, .res3L, .res3AtHl, .res3A] = true := by decide
theorem test_words_CB_Ax : reads 16 0xCBA0
  [.res4B, .res4C, .res4D, .res4E, .res4H, .res4L, .res4AtHl, .res4A,
   .res5B, .res5C, .res5D, .res5E, .res5H, .res5L, .res5AtHl, .res5A] = true := by decide
theorem test_words_CB_Bx : reads 16 0xCBB0
  [.res6B, .res6C, .res6D, .res6E, .res6H, .res6L, .res6AtHl, .res6A,
   .res7B, .res7C, .res7D, .res7E, .res7H, .res7L, .res7AtHl, .res7A] = true := by decide
theorem test_words_CB_Cx : reads 16 0xCBC0
  [.set0B, .set0C, .set0D, .set0E, .set0H, .set0L, .set0AtHl, .set0A,
   .set1B, .set1C, .set1D, .set1E, .set1H, .set1L, .set1AtHl, .set1A] = true := by decide
theorem test_words_CB_Dx : reads 16 0xCBD0
  [.set2B, .set2C, .set2D, .set2E, .set2H, .set2L, .set2AtHl, .set2A,
   .set3B, .set3C, .set3D, .set3E, .set3H, .set3L, .set3AtHl, .set3A] = true := by decide
theorem test_words_CB_Ex : reads 16 0xCBE0
  [.set4B, .set4C, .set4D, .set4E, .set4H, .set4L, .set4AtHl, .set4A,
   .set5B, .set5C, .set5D, .set5E, .set5H, .set5L, .set5AtHl, .set5A] = true := by decide
theorem test_words_CB_Fx : reads 16 0xCBF0
  [.set6B, .set6C, .set6D, .set6E, .set6H, .set6L, .set6AtHl, .set6A,
   .set7B, .set7C, .set7D, .set7E, .set7H, .set7L, .set7AtHl, .set7A] = true := by decide

/-- The same word read as two bytes with the prefix in bits 7..0 (log entry 9). -/
theorem test_word_prefix_first : decodeTableWord 16 0x37CB = some .swapA := by decide
/-- An operand word is little-endian (R54): C3 50 01 is JP 0x0150. -/
theorem test_word_jp : decode [0xC3, 0x50, 0x01, 0x99] = .ok (.jpA16 0x0150, [0x99]) := by decide
/-- C6 03 is ADD A,0x03 (R72). -/
theorem test_word_add_imm : decode [0xC6, 0x03] = .ok (.addAN8 0x03, []) := by decide
/-- 18 FE is JR -2 (R171). -/
theorem test_word_jr : decode [0x18, 0xFE] = .ok (.jrE8 0xFE, []) := by decide
theorem test_word_missing : decode [0xCD, 0x34] = .error (.missingOperand 0xCD) := by decide
theorem test_word_none : decode [] = .error .noBytes := by decide

/-! ### Steps -/

/-- The state after reset, at 0xC000, where 95_test_vectors.md places an instruction. -/
def ready : State := { State.reset with pc := 0xC000 }

/-- A state with bytes placed behind the bus. -/
def placed (cells : List (Nat × Byte)) (s : State) : State :=
  cells.foldl (fun s c => s.deviceWrite (BitVec.ofNat 16 c.1) c.2) s

/-- The next state of an outcome. -/
def nextOf : Result → Option State
  | .next t => some t
  | .fault _ => none
  | .refused _ => none

/-- A, F, BC, DE, HL, SP, PC and the cycles. -/
def regs (s : State) : List Nat :=
  [s.a.toNat, s.f.toNat, s.bc.toNat, s.de.toNat, s.hl.toNat, s.sp.toNat, s.pc.toNat, s.cycles]

/-- The writes of a list of bus calls. -/
def writesOf : List BusCall → List (Nat × Nat)
  | [] => []
  | .write a v :: rest => (a.toNat, v.toNat) :: writesOf rest
  | .read _ _ :: rest => writesOf rest

/-- IME, EI's delay, HALT's bug and the mode. -/
def control (s : State) : Bool × Bool × Bool × Mode := (s.ime, s.eiPending, s.haltBug, s.mode)

/-- Does one step leave these registers, cycles and control state, and make these writes, in order? -/
def leaves (s : State) (r : List Nat) (writes : List (Nat × Nat)) (c : Bool × Bool × Bool × Mode) : Bool :=
  (nextOf (step s)).any fun t => decide (regs t = r) && decide (writesOf t.bus = writes) && decide (control t = c)

/-- The same, with the control state of reset. -/
def gives (s : State) (r : List Nat) (writes : List (Nat × Nat)) : Bool := leaves s r writes (false, false, false, .running)

theorem test_addAB_V1 : gives (placed [(0xC000, 0x80)]
    { ready with a := 0x3A, f := 0x00, b := 0xC6 }) [0x00, 0xB0, 0xC613, 0x00D8, 0x014D, 0xFFFE, 0xC001, 4]
    [] = true := by decide
theorem test_addAN8_V2 : gives (placed [(0xC000, 0xC6), (0xC001, 0x01)]
    { ready with a := 0x0F, f := 0x00 }) [0x10, 0x20, 0x0013, 0x00D8, 0x014D, 0xFFFE, 0xC002, 8]
    [] = true := by decide
theorem test_addAAtHl_V3 : gives (placed [(0xC000, 0x86), (0xD000, 0x12)]
    { ready with a := 0x3C, f := 0x00, h := 0xD0, l := 0x00 }) [0x4E, 0x00, 0x0013, 0x00D8, 0xD000, 0xFFFE, 0xC001, 8]
    [] = true := by decide
theorem test_adcAE_V4 : gives (placed [(0xC000, 0x8B)]
    { ready with a := 0xE1, f := 0x10, e := 0x0F }) [0xF1, 0x20, 0x0013, 0x000F, 0x014D, 0xFFFE, 0xC001, 4]
    [] = true := by decide
theorem test_adcAN8_V5 : gives (placed [(0xC000, 0xCE), (0xC001, 0x00)]
    { ready with a := 0xFF, f := 0x10 }) [0x00, 0xB0, 0x0013, 0x00D8, 0x014D, 0xFFFE, 0xC002, 8]
    [] = true := by decide
theorem test_adcAAtHl_V6 : gives (placed [(0xC000, 0x8E), (0xD000, 0x1E)]
    { ready with a := 0xE1, f := 0x10, h := 0xD0, l := 0x00 }) [0x00, 0xB0, 0x0013, 0x00D8, 0xD000, 0xFFFE, 0xC001, 8]
    [] = true := by decide
theorem test_subE_V7 : gives (placed [(0xC000, 0x93)]
    { ready with a := 0x3E, f := 0x00, e := 0x3E }) [0x00, 0xC0, 0x0013, 0x003E, 0x014D, 0xFFFE, 0xC001, 4]
    [] = true := by decide
theorem test_subN8_V8 : gives (placed [(0xC000, 0xD6), (0xC001, 0x0F)]
    { ready with a := 0x3E, f := 0x00 }) [0x2F, 0x60, 0x0013, 0x00D8, 0x014D, 0xFFFE, 0xC002, 8]
    [] = true := by decide
theorem test_subAtHl_V9 : gives (placed [(0xC000, 0x96), (0xD000, 0x40)]
    { ready with a := 0x3E, f := 0x00, h := 0xD0, l := 0x00 }) [0xFE, 0x50, 0x0013, 0x00D8, 0xD000, 0xFFFE, 0xC001, 8]
    [] = true := by decide
theorem test_sbcAH_V10 : gives (placed [(0xC000, 0x9C)]
    { ready with a := 0x3B, f := 0x10, h := 0x2A }) [0x10, 0x40, 0x0013, 0x00D8, 0x2A4D, 0xFFFE, 0xC001, 4]
    [] = true := by decide
theorem test_sbcAN8_V11 : gives (placed [(0xC000, 0xDE), (0xC001, 0x4F)]
    { ready with a := 0x3B, f := 0x10 }) [0xEB, 0x70, 0x0013, 0x00D8, 0x014D, 0xFFFE, 0xC002, 8]
    [] = true := by decide
theorem test_sbcAAtHl_V12 : gives (placed [(0xC000, 0x9E), (0xD000, 0xFF)]
    { ready with a := 0x00, f := 0x10, h := 0xD0, l := 0x00 }) [0x00, 0xF0, 0x0013, 0x00D8, 0xD000, 0xFFFE, 0xC001, 8]
    [] = true := by decide
theorem test_sbcAA_V13 : gives (placed [(0xC000, 0x9F)]
    { ready with a := 0x5A, f := 0x10 }) [0xFF, 0x70, 0x0013, 0x00D8, 0x014D, 0xFFFE, 0xC001, 4]
    [] = true := by decide
theorem test_andL_V14 : gives (placed [(0xC000, 0xA5)]
    { ready with a := 0x5A, f := 0x00, l := 0x3F }) [0x1A, 0x20, 0x0013, 0x00D8, 0x013F, 0xFFFE, 0xC001, 4]
    [] = true := by decide
theorem test_andN8_V15 : gives (placed [(0xC000, 0xE6), (0xC001, 0x00)]
    { ready with a := 0x5A, f := 0x10 }) [0x00, 0xA0, 0x0013, 0x00D8, 0x014D, 0xFFFE, 0xC002, 8]
    [] = true := by decide
theorem test_xorA_V16 : gives (placed [(0xC000, 0xAF)]
    { ready with a := 0xFF, f := 0x70 }) [0x00, 0x80, 0x0013, 0x00D8, 0x014D, 0xFFFE, 0xC001, 4]
    [] = true := by decide
theorem test_xorAtHl_V17 : gives (placed [(0xC000, 0xAE), (0xD000, 0x8A)]
    { ready with a := 0xFF, f := 0x00, h := 0xD0, l := 0x00 }) [0x75, 0x00, 0x0013, 0x00D8, 0xD000, 0xFFFE, 0xC001, 8]
    [] = true := by decide
theorem test_orN8_V18 : gives (placed [(0xC000, 0xF6), (0xC001, 0x03)]
    { ready with a := 0x5A, f := 0xF0 }) [0x5B, 0x00, 0x0013, 0x00D8, 0x014D, 0xFFFE, 0xC002, 8]
    [] = true := by decide
theorem test_orAtHl_V19 : gives (placed [(0xC000, 0xB6), (0xD000, 0x00)]
    { ready with a := 0x00, f := 0x00, h := 0xD0, l := 0x00 }) [0x00, 0x80, 0x0013, 0x00D8, 0xD000, 0xFFFE, 0xC001, 8]
    [] = true := by decide
theorem test_cpB_V20 : gives (placed [(0xC000, 0xB8)]
    { ready with a := 0x3C, f := 0x00, b := 0x2F }) [0x3C, 0x60, 0x2F13, 0x00D8, 0x014D, 0xFFFE, 0xC001, 4]
    [] = true := by decide
theorem test_cpN8_V21 : gives (placed [(0xC000, 0xFE), (0xC001, 0x40)]
    { ready with a := 0x3C, f := 0x00 }) [0x3C, 0x50, 0x0013, 0x00D8, 0x014D, 0xFFFE, 0xC002, 8]
    [] = true := by decide
theorem test_cpAtHl_V22 : gives (placed [(0xC000, 0xBE), (0xD000, 0x3C)]
    { ready with a := 0x3C, f := 0x00, h := 0xD0, l := 0x00 }) [0x3C, 0xC0, 0x0013, 0x00D8, 0xD000, 0xFFFE, 0xC001, 8]
    [] = true := by decide
theorem test_incA_V23 : gives (placed [(0xC000, 0x3C)]
    { ready with a := 0xFF, f := 0x10 }) [0x00, 0xB0, 0x0013, 0x00D8, 0x014D, 0xFFFE, 0xC001, 4]
    [] = true := by decide
theorem test_incB_V24 : gives (placed [(0xC000, 0x04)]
    { ready with f := 0xC0, b := 0x0F }) [0x01, 0x20, 0x1013, 0x00D8, 0x014D, 0xFFFE, 0xC001, 4]
    [] = true := by decide
theorem test_incAtHl_V25 : gives (placed [(0xC000, 0x34), (0xD000, 0x50)]
    { ready with f := 0x00, h := 0xD0, l := 0x00 }) [0x01, 0x00, 0x0013, 0x00D8, 0xD000, 0xFFFE, 0xC001, 12]
    [(0xD000, 0x51)] = true := by decide
theorem test_decC_V26 : gives (placed [(0xC000, 0x0D)]
    { ready with f := 0x00, c := 0x01 }) [0x01, 0xC0, 0x0000, 0x00D8, 0x014D, 0xFFFE, 0xC001, 4]
    [] = true := by decide
theorem test_decD_V27 : gives (placed [(0xC000, 0x15)]
    { ready with f := 0x10 }) [0x01, 0x70, 0x0013, 0xFFD8, 0x014D, 0xFFFE, 0xC001, 4]
    [] = true := by decide
theorem test_decAtHl_V28 : gives (placed [(0xC000, 0x35), (0xD000, 0x10)]
    { ready with f := 0x00, h := 0xD0, l := 0x00 }) [0x01, 0x60, 0x0013, 0x00D8, 0xD000, 0xFFFE, 0xC001, 12]
    [(0xD000, 0x0F)] = true := by decide
theorem test_addAA_V29 : gives (placed [(0xC000, 0x87)]
    { ready with a := 0x80, f := 0x00 }) [0x00, 0x90, 0x0013, 0x00D8, 0x014D, 0xFFFE, 0xC001, 4]
    [] = true := by decide
theorem test_cpl_V30 : gives (placed [(0xC000, 0x2F)]
    { ready with a := 0x35, f := 0x00 }) [0xCA, 0x60, 0x0013, 0x00D8, 0x014D, 0xFFFE, 0xC001, 4]
    [] = true := by decide
theorem test_scf_V31 : gives (placed [(0xC000, 0x37)]
    { ready with f := 0x60 }) [0x01, 0x10, 0x0013, 0x00D8, 0x014D, 0xFFFE, 0xC001, 4]
    [] = true := by decide
theorem test_ccf_V32 : gives (placed [(0xC000, 0x3F)]
    { ready with f := 0xF0 }) [0x01, 0x80, 0x0013, 0x00D8, 0x014D, 0xFFFE, 0xC001, 4]
    [] = true := by decide
theorem test_ccf_V33 : gives (placed [(0xC000, 0x3F)]
    { ready with f := 0x00 }) [0x01, 0x10, 0x0013, 0x00D8, 0x014D, 0xFFFE, 0xC001, 4]
    [] = true := by decide
theorem test_daa_V36 : gives (placed [(0xC000, 0x27)]
    { ready with a := 0x00, f := 0x10 }) [0x60, 0x10, 0x0013, 0x00D8, 0x014D, 0xFFFE, 0xC001, 4]
    [] = true := by decide
theorem test_daa_V40 : gives (placed [(0xC000, 0x27)]
    { ready with a := 0x99, f := 0x70 }) [0x33, 0x50, 0x0013, 0x00D8, 0x014D, 0xFFFE, 0xC001, 4]
    [] = true := by decide
theorem test_addHlBc_V43 : gives (placed [(0xC000, 0x09)]
    { ready with f := 0x00, b := 0x06, c := 0x05, h := 0x8A, l := 0x23 }) [0x01, 0x20, 0x0605, 0x00D8, 0x9028, 0xFFFE, 0xC001, 8]
    [] = true := by decide
theorem test_addHlHl_V44 : gives (placed [(0xC000, 0x29)]
    { ready with f := 0x80, h := 0x8A, l := 0x23 }) [0x01, 0xB0, 0x0013, 0x00D8, 0x1446, 0xFFFE, 0xC001, 8]
    [] = true := by decide
theorem test_addHlDe_V45 : gives (placed [(0xC000, 0x19)]
    { ready with f := 0x40, e := 0x01, h := 0xFF, l := 0xFF }) [0x01, 0x30, 0x0013, 0x0001, 0x0000, 0xFFFE, 0xC001, 8]
    [] = true := by decide
theorem test_addHlSp_V46 : gives (placed [(0xC000, 0x39)]
    { ready with f := 0x00, l := 0x00, sp := 0xFF00 }) [0x01, 0x30, 0x0013, 0x00D8, 0x0000, 0xFF00, 0xC001, 8]
    [] = true := by decide
theorem test_incBc_V47 : gives (placed [(0xC000, 0x03)]
    { ready with f := 0x00, b := 0xFF, c := 0xFF }) [0x01, 0x00, 0x0000, 0x00D8, 0x014D, 0xFFFE, 0xC001, 8]
    [] = true := by decide
theorem test_decDe_V48 : gives (placed [(0xC000, 0x1B)]
    { ready with f := 0xF0, e := 0x00 }) [0x01, 0xF0, 0x0013, 0xFFFF, 0x014D, 0xFFFE, 0xC001, 8]
    [] = true := by decide
theorem test_incSp_V49 : gives (placed [(0xC000, 0x33)]
    { ready with f := 0x00, sp := 0xFFFF }) [0x01, 0x00, 0x0013, 0x00D8, 0x014D, 0x0000, 0xC001, 8]
    [] = true := by decide
theorem test_decHl_V50 : gives (placed [(0xC000, 0x2B)]
    { ready with f := 0x00, l := 0x00 }) [0x01, 0x00, 0x0013, 0x00D8, 0x00FF, 0xFFFE, 0xC001, 8]
    [] = true := by decide
theorem test_addSpE8_V52 : gives (placed [(0xC000, 0xE8), (0xC001, 0xFF)]
    { ready with f := 0x00, sp := 0x000F }) [0x01, 0x30, 0x0013, 0x00D8, 0x014D, 0x000E, 0xC002, 16]
    [] = true := by decide
theorem test_addSpE8_V55 : gives (placed [(0xC000, 0xE8), (0xC001, 0xFF)]
    { ready with f := 0x00, sp := 0x0000, config := { defaultConfig with signedAddFlags := .magnitude } }) [0x01, 0x30, 0x0013, 0x00D8, 0x014D, 0xFFFF, 0xC002, 16]
    [] = true := by decide
theorem test_rlca_V59 : gives (placed [(0xC000, 0x07)]
    { ready with a := 0x85, f := 0x00 }) [0x0B, 0x10, 0x0013, 0x00D8, 0x014D, 0xFFFE, 0xC001, 4]
    [] = true := by decide
theorem test_rrca_V61 : gives (placed [(0xC000, 0x0F)]
    { ready with f := 0x00 }) [0x80, 0x10, 0x0013, 0x00D8, 0x014D, 0xFFFE, 0xC001, 4]
    [] = true := by decide
theorem test_rla_V62 : gives (placed [(0xC000, 0x17)]
    { ready with a := 0x95, f := 0x10 }) [0x2B, 0x10, 0x0013, 0x00D8, 0x014D, 0xFFFE, 0xC001, 4]
    [] = true := by decide
theorem test_rra_V64 : gives (placed [(0xC000, 0x1F)]
    { ready with a := 0x81, f := 0x00 }) [0x40, 0x10, 0x0013, 0x00D8, 0x014D, 0xFFFE, 0xC001, 4]
    [] = true := by decide
theorem test_rlcB_V65 : gives (placed [(0xC000, 0xCB), (0xC001, 0x00)]
    { ready with f := 0x00, b := 0x80 }) [0x01, 0x10, 0x0113, 0x00D8, 0x014D, 0xFFFE, 0xC002, 8]
    [] = true := by decide
theorem test_rlcAtHl_V66 : gives (placed [(0xC000, 0xCB), (0xC001, 0x06), (0xD000, 0x00)]
    { ready with f := 0x10, h := 0xD0, l := 0x00 }) [0x01, 0x80, 0x0013, 0x00D8, 0xD000, 0xFFFE, 0xC002, 16]
    [(0xD000, 0x00)] = true := by decide
theorem test_rrcC_V67 : gives (placed [(0xC000, 0xCB), (0xC001, 0x09)]
    { ready with f := 0x00, c := 0x01 }) [0x01, 0x10, 0x0080, 0x00D8, 0x014D, 0xFFFE, 0xC002, 8]
    [] = true := by decide
theorem test_rrcAtHl_V68 : gives (placed [(0xC000, 0xCB), (0xC001, 0x0E), (0xD000, 0x02)]
    { ready with f := 0x00, h := 0xD0, l := 0x00 }) [0x01, 0x00, 0x0013, 0x00D8, 0xD000, 0xFFFE, 0xC002, 16]
    [(0xD000, 0x01)] = true := by decide
theorem test_rlD_V69 : gives (placed [(0xC000, 0xCB), (0xC001, 0x12)]
    { ready with f := 0x00, d := 0x80 }) [0x01, 0x90, 0x0013, 0x00D8, 0x014D, 0xFFFE, 0xC002, 8]
    [] = true := by decide
theorem test_rlAtHl_V70 : gives (placed [(0xC000, 0xCB), (0xC001, 0x16), (0xD000, 0x11)]
    { ready with f := 0x10, h := 0xD0, l := 0x00 }) [0x01, 0x00, 0x0013, 0x00D8, 0xD000, 0xFFFE, 0xC002, 16]
    [(0xD000, 0x23)] = true := by decide
theorem test_rrE_V71 : gives (placed [(0xC000, 0xCB), (0xC001, 0x1B)]
    { ready with f := 0x00, e := 0x01 }) [0x01, 0x90, 0x0013, 0x0000, 0x014D, 0xFFFE, 0xC002, 8]
    [] = true := by decide
theorem test_rrAtHl_V72 : gives (placed [(0xC000, 0xCB), (0xC001, 0x1E), (0xD000, 0x8A)]
    { ready with f := 0x10, h := 0xD0, l := 0x00 }) [0x01, 0x00, 0x0013, 0x00D8, 0xD000, 0xFFFE, 0xC002, 16]
    [(0xD000, 0xC5)] = true := by decide
theorem test_slaH_V73 : gives (placed [(0xC000, 0xCB), (0xC001, 0x24)]
    { ready with f := 0x00, h := 0xFF }) [0x01, 0x10, 0x0013, 0x00D8, 0xFE4D, 0xFFFE, 0xC002, 8]
    [] = true := by decide
theorem test_slaAtHl_V74 : gives (placed [(0xC000, 0xCB), (0xC001, 0x26), (0xD000, 0x80)]
    { ready with f := 0x00, h := 0xD0, l := 0x00 }) [0x01, 0x90, 0x0013, 0x00D8, 0xD000, 0xFFFE, 0xC002, 16]
    [(0xD000, 0x00)] = true := by decide
theorem test_sraL_V75 : gives (placed [(0xC000, 0xCB), (0xC001, 0x2D)]
    { ready with f := 0x00, l := 0x8A }) [0x01, 0x00, 0x0013, 0x00D8, 0x01C5, 0xFFFE, 0xC002, 8]
    [] = true := by decide
theorem test_sraAtHl_V76 : gives (placed [(0xC000, 0xCB), (0xC001, 0x2E), (0xD000, 0x01)]
    { ready with f := 0x00, h := 0xD0, l := 0x00 }) [0x01, 0x90, 0x0013, 0x00D8, 0xD000, 0xFFFE, 0xC002, 16]
    [(0xD000, 0x00)] = true := by decide
theorem test_swapA_V77 : gives (placed [(0xC000, 0xCB), (0xC001, 0x37)]
    { ready with a := 0xF0, f := 0xF0 }) [0x0F, 0x00, 0x0013, 0x00D8, 0x014D, 0xFFFE, 0xC002, 8]
    [] = true := by decide
theorem test_swapAtHl_V78 : gives (placed [(0xC000, 0xCB), (0xC001, 0x36), (0xD000, 0x00)]
    { ready with f := 0x00, h := 0xD0, l := 0x00 }) [0x01, 0x80, 0x0013, 0x00D8, 0xD000, 0xFFFE, 0xC002, 16]
    [(0xD000, 0x00)] = true := by decide
theorem test_srlA_V79 : gives (placed [(0xC000, 0xCB), (0xC001, 0x3F)]
    { ready with f := 0x00 }) [0x00, 0x90, 0x0013, 0x00D8, 0x014D, 0xFFFE, 0xC002, 8]
    [] = true := by decide
theorem test_srlAtHl_V80 : gives (placed [(0xC000, 0xCB), (0xC001, 0x3E), (0xD000, 0xFF)]
    { ready with f := 0x00, h := 0xD0, l := 0x00 }) [0x01, 0x10, 0x0013, 0x00D8, 0xD000, 0xFFFE, 0xC002, 16]
    [(0xD000, 0x7F)] = true := by decide
theorem test_bit7H_V81 : gives (placed [(0xC000, 0xCB), (0xC001, 0x7C)]
    { ready with f := 0x50, h := 0x80 }) [0x01, 0x30, 0x0013, 0x00D8, 0x804D, 0xFFFE, 0xC002, 8]
    [] = true := by decide
theorem test_bit0AtHl_V82 : gives (placed [(0xC000, 0xCB), (0xC001, 0x46), (0xD000, 0xFE)]
    { ready with f := 0x00, h := 0xD0, l := 0x00 }) [0x01, 0xA0, 0x0013, 0x00D8, 0xD000, 0xFFFE, 0xC002, 12]
    [] = true := by decide
theorem test_res0A_V83 : gives (placed [(0xC000, 0xCB), (0xC001, 0x87)]
    { ready with a := 0xFF, f := 0x00 }) [0xFE, 0x00, 0x0013, 0x00D8, 0x014D, 0xFFFE, 0xC002, 8]
    [] = true := by decide
theorem test_res7AtHl_V84 : gives (placed [(0xC000, 0xCB), (0xC001, 0xBE), (0xD000, 0xFF)]
    { ready with f := 0xF0, h := 0xD0, l := 0x00 }) [0x01, 0xF0, 0x0013, 0x00D8, 0xD000, 0xFFFE, 0xC002, 16]
    [(0xD000, 0x7F)] = true := by decide
theorem test_set3B_V85 : gives (placed [(0xC000, 0xCB), (0xC001, 0xD8)]
    { ready with f := 0x00 }) [0x01, 0x00, 0x0813, 0x00D8, 0x014D, 0xFFFE, 0xC002, 8]
    [] = true := by decide
theorem test_set7AtHl_V86 : gives (placed [(0xC000, 0xCB), (0xC001, 0xFE), (0xD000, 0x00)]
    { ready with f := 0x00, h := 0xD0, l := 0x00 }) [0x01, 0x00, 0x0013, 0x00D8, 0xD000, 0xFFFE, 0xC002, 16]
    [(0xD000, 0x80)] = true := by decide
theorem test_ldBC_V87 : gives (placed [(0xC000, 0x41)]
    { ready with c := 0x5A }) [0x01, 0xB0, 0x5A5A, 0x00D8, 0x014D, 0xFFFE, 0xC001, 4]
    [] = true := by decide
theorem test_ldAA_V88 : gives (placed [(0xC000, 0x7F)]
    { ready with a := 0x77 }) [0x77, 0xB0, 0x0013, 0x00D8, 0x014D, 0xFFFE, 0xC001, 4]
    [] = true := by decide
theorem test_ldDN8_V89 : gives (placed [(0xC000, 0x16), (0xC001, 0x9C)]
    ready) [0x01, 0xB0, 0x0013, 0x9CD8, 0x014D, 0xFFFE, 0xC002, 8]
    [] = true := by decide
theorem test_ldEAtHl_V90 : gives (placed [(0xC000, 0x5E), (0xD000, 0x42)]
    { ready with h := 0xD0, l := 0x00 }) [0x01, 0xB0, 0x0013, 0x0042, 0xD000, 0xFFFE, 0xC001, 8]
    [] = true := by decide
theorem test_ldAtHlH_V91 : gives (placed [(0xC000, 0x74)]
    { ready with h := 0xD0, l := 0xA0 }) [0x01, 0xB0, 0x0013, 0x00D8, 0xD0A0, 0xFFFE, 0xC001, 8]
    [(0xD0A0, 0xD0)] = true := by decide
theorem test_ldAtHlN8_V92 : gives (placed [(0xC000, 0x36), (0xC001, 0x99)]
    { ready with h := 0xD0, l := 0x00 }) [0x01, 0xB0, 0x0013, 0x00D8, 0xD000, 0xFFFE, 0xC002, 12]
    [(0xD000, 0x99)] = true := by decide
theorem test_ldAAtBc_V93 : gives (placed [(0xC000, 0x0A), (0xD001, 0x17)]
    { ready with b := 0xD0, c := 0x01 }) [0x17, 0xB0, 0xD001, 0x00D8, 0x014D, 0xFFFE, 0xC001, 8]
    [] = true := by decide
theorem test_ldAtDeA_V94 : gives (placed [(0xC000, 0x12)]
    { ready with a := 0x33, d := 0xD0, e := 0x02 }) [0x33, 0xB0, 0x0013, 0xD002, 0x014D, 0xFFFE, 0xC001, 8]
    [(0xD002, 0x33)] = true := by decide
theorem test_ldAAtA16_V95 : gives (placed [(0xC000, 0xFA), (0xC001, 0x34), (0xC002, 0xD2), (0xD234, 0xAB)]
    ready) [0xAB, 0xB0, 0x0013, 0x00D8, 0x014D, 0xFFFE, 0xC003, 16]
    [] = true := by decide
theorem test_ldAtA16A_V96 : gives (placed [(0xC000, 0xEA), (0xC001, 0x00), (0xC002, 0xD3)]
    { ready with a := 0x12 }) [0x12, 0xB0, 0x0013, 0x00D8, 0x014D, 0xFFFE, 0xC003, 16]
    [(0xD300, 0x12)] = true := by decide
theorem test_ldhAAtC_V97 : gives (placed [(0xC000, 0xF2), (0xFF80, 0x5E)]
    { ready with c := 0x80 }) [0x5E, 0xB0, 0x0080, 0x00D8, 0x014D, 0xFFFE, 0xC001, 8]
    [] = true := by decide
theorem test_ldhAtCA_V98 : gives (placed [(0xC000, 0xE2)]
    { ready with a := 0x66, c := 0x81 }) [0x66, 0xB0, 0x0081, 0x00D8, 0x014D, 0xFFFE, 0xC001, 8]
    [(0xFF81, 0x66)] = true := by decide
theorem test_ldhAAtA8_V99 : gives (placed [(0xC000, 0xF0), (0xC001, 0xFF), (0xFFFF, 0x1F)]
    ready) [0x1F, 0xB0, 0x0013, 0x00D8, 0x014D, 0xFFFE, 0xC002, 12]
    [] = true := by decide
theorem test_ldhAtA8A_V100 : gives (placed [(0xC000, 0xE0), (0xC001, 0x0F)]
    { ready with a := 0x04 }) [0x04, 0xB0, 0x0013, 0x00D8, 0x014D, 0xFFFE, 0xC002, 12]
    [(0xFF0F, 0x04)] = true := by decide
theorem test_ldAAtHld_V101 : gives (placed [(0xC000, 0x3A), (0x0000, 0x31)]
    { ready with h := 0x00, l := 0x00 }) [0x31, 0xB0, 0x0013, 0x00D8, 0xFFFF, 0xFFFE, 0xC001, 8]
    [] = true := by decide
theorem test_ldAtHldA_V102 : gives (placed [(0xC000, 0x32)]
    { ready with h := 0xD0, l := 0x10 }) [0x01, 0xB0, 0x0013, 0x00D8, 0xD00F, 0xFFFE, 0xC001, 8]
    [(0xD010, 0x01)] = true := by decide
theorem test_ldAAtHli_V103 : gives (placed [(0xC000, 0x2A), (0xFFFF, 0x07)]
    { ready with h := 0xFF, l := 0xFF }) [0x07, 0xB0, 0x0013, 0x00D8, 0x0000, 0xFFFE, 0xC001, 8]
    [] = true := by decide
theorem test_ldAtHliA_V104 : gives (placed [(0xC000, 0x22)]
    { ready with a := 0x02, h := 0xD0, l := 0xFF }) [0x02, 0xB0, 0x0013, 0x00D8, 0xD100, 0xFFFE, 0xC001, 8]
    [(0xD0FF, 0x02)] = true := by decide
theorem test_ldBcN16_V105 : gives (placed [(0xC000, 0x01), (0xC001, 0x34), (0xC002, 0x12)]
    ready) [0x01, 0xB0, 0x1234, 0x00D8, 0x014D, 0xFFFE, 0xC003, 12]
    [] = true := by decide
theorem test_ldSpN16_V106 : gives (placed [(0xC000, 0x31), (0xC001, 0xFE), (0xC002, 0xDF)]
    ready) [0x01, 0xB0, 0x0013, 0x00D8, 0x014D, 0xDFFE, 0xC003, 12]
    [] = true := by decide
theorem test_ldAtA16Sp_V107 : gives (placed [(0xC000, 0x08), (0xC001, 0x00), (0xC002, 0xD1)]
    { ready with sp := 0xABCD }) [0x01, 0xB0, 0x0013, 0x00D8, 0x014D, 0xABCD, 0xC003, 20]
    [(0xD100, 0xCD), (0xD101, 0xAB)] = true := by decide
theorem test_ldSpHl_V108 : gives (placed [(0xC000, 0xF9)]
    { ready with h := 0xD8, l := 0x00 }) [0x01, 0xB0, 0x0013, 0x00D8, 0xD800, 0xD800, 0xC001, 8]
    [] = true := by decide
theorem test_ldHlSpE8_V110 : gives (placed [(0xC000, 0xF8), (0xC001, 0xFF)]
    { ready with f := 0x00, sp := 0x000F }) [0x01, 0x30, 0x0013, 0x00D8, 0x000E, 0x000F, 0xC002, 12]
    [] = true := by decide
theorem test_pushBc_V111 : gives (placed [(0xC000, 0xC5)]
    { ready with b := 0x12, c := 0x34, sp := 0xDFFE }) [0x01, 0xB0, 0x1234, 0x00D8, 0x014D, 0xDFFC, 0xC001, 16]
    [(0xDFFC, 0x34), (0xDFFD, 0x12)] = true := by decide
theorem test_pushAf_V112 : gives (placed [(0xC000, 0xF5)]
    { ready with a := 0x9C, f := 0x50, sp := 0x0001 }) [0x9C, 0x50, 0x0013, 0x00D8, 0x014D, 0xFFFF, 0xC001, 16]
    [(0xFFFF, 0x50), (0x0000, 0x9C)] = true := by decide
theorem test_popDe_V113 : gives (placed [(0xC000, 0xD1), (0xDFFC, 0x78), (0xDFFD, 0x56)]
    { ready with sp := 0xDFFC }) [0x01, 0xB0, 0x0013, 0x5678, 0x014D, 0xDFFE, 0xC001, 12]
    [] = true := by decide
theorem test_popAf_V114 : gives (placed [(0xC000, 0xF1), (0xDFFC, 0xFF), (0xDFFD, 0x11)]
    { ready with sp := 0xDFFC }) [0x11, 0xF0, 0x0013, 0x00D8, 0x014D, 0xDFFE, 0xC001, 12]
    [] = true := by decide
theorem test_popHl_V115 : gives (placed [(0xC000, 0xE1), (0xFFFF, 0x22), (0x0000, 0x33)]
    { ready with sp := 0xFFFF }) [0x01, 0xB0, 0x0013, 0x00D8, 0x3322, 0x0001, 0xC001, 12]
    [] = true := by decide
theorem test_jpA16_V116 : gives (placed [(0xC000, 0xC3), (0xC001, 0x50), (0xC002, 0x01)]
    ready) [0x01, 0xB0, 0x0013, 0x00D8, 0x014D, 0xFFFE, 0x0150, 16]
    [] = true := by decide
theorem test_jpNzA16_V117 : gives (placed [(0xC000, 0xC2), (0xC001, 0x00), (0xC002, 0xD0)]
    { ready with f := 0x00 }) [0x01, 0x00, 0x0013, 0x00D8, 0x014D, 0xFFFE, 0xD000, 16]
    [] = true := by decide
theorem test_jpZA16_V118 : gives (placed [(0xC000, 0xCA), (0xC001, 0x00), (0xC002, 0xD0)]
    { ready with f := 0x00 }) [0x01, 0x00, 0x0013, 0x00D8, 0x014D, 0xFFFE, 0xC003, 12]
    [] = true := by decide
theorem test_jpHl_V119 : gives (placed [(0xC000, 0xE9)]
    { ready with h := 0x40, l := 0x00 }) [0x01, 0xB0, 0x0013, 0x00D8, 0x4000, 0xFFFE, 0x4000, 4]
    [] = true := by decide
theorem test_jrE8_V120 : gives (placed [(0xC000, 0x18), (0xC001, 0xFE)]
    ready) [0x01, 0xB0, 0x0013, 0x00D8, 0x014D, 0xFFFE, 0xC000, 12]
    [] = true := by decide
theorem test_jrNcE8_V121 : gives (placed [(0xC000, 0x30), (0xC001, 0x05)]
    { ready with f := 0x00 }) [0x01, 0x00, 0x0013, 0x00D8, 0x014D, 0xFFFE, 0xC007, 12]
    [] = true := by decide
theorem test_jrCE8_V122 : gives (placed [(0xC000, 0x38), (0xC001, 0x05)]
    { ready with f := 0x00 }) [0x01, 0x00, 0x0013, 0x00D8, 0x014D, 0xFFFE, 0xC002, 8]
    [] = true := by decide
theorem test_jrE8_V123 : gives (placed [(0xC000, 0x18), (0xC001, 0x80)]
    ready) [0x01, 0xB0, 0x0013, 0x00D8, 0x014D, 0xFFFE, 0xBF82, 12]
    [] = true := by decide
theorem test_callA16_V124 : gives (placed [(0xC000, 0xCD), (0xC001, 0x34), (0xC002, 0x12)]
    { ready with sp := 0xDFFE }) [0x01, 0xB0, 0x0013, 0x00D8, 0x014D, 0xDFFC, 0x1234, 24]
    [(0xDFFC, 0x03), (0xDFFD, 0xC0)] = true := by decide
theorem test_callNcA16_V125 : gives (placed [(0xC000, 0xD4), (0xC001, 0x34), (0xC002, 0x12)]
    { ready with f := 0x10, sp := 0xDFFE }) [0x01, 0x10, 0x0013, 0x00D8, 0x014D, 0xDFFE, 0xC003, 12]
    [] = true := by decide
theorem test_callZA16_V126 : gives (placed [(0xC000, 0xCC), (0xC001, 0x34), (0xC002, 0x12)]
    { ready with f := 0x80, sp := 0xDFFE }) [0x01, 0x80, 0x0013, 0x00D8, 0x014D, 0xDFFC, 0x1234, 24]
    [(0xDFFC, 0x03), (0xDFFD, 0xC0)] = true := by decide
theorem test_ret_V127 : gives (placed [(0xC000, 0xC9), (0xDFFC, 0x03), (0xDFFD, 0xC1)]
    { ready with sp := 0xDFFC }) [0x01, 0xB0, 0x0013, 0x00D8, 0x014D, 0xDFFE, 0xC103, 16]
    [] = true := by decide
theorem test_retNz_V128 : gives (placed [(0xC000, 0xC0)]
    { ready with f := 0x80, sp := 0xDFFC }) [0x01, 0x80, 0x0013, 0x00D8, 0x014D, 0xDFFC, 0xC001, 8]
    [] = true := by decide
theorem test_retC_V129 : gives (placed [(0xC000, 0xD8), (0xDFFC, 0x03), (0xDFFD, 0xC1)]
    { ready with f := 0x10, sp := 0xDFFC }) [0x01, 0x10, 0x0013, 0x00D8, 0x014D, 0xDFFE, 0xC103, 20]
    [] = true := by decide
theorem test_reti_V130 : leaves (placed [(0xC000, 0xD9), (0xDFFC, 0x03), (0xDFFD, 0xC1)]
    { ready with sp := 0xDFFC }) [0x01, 0xB0, 0x0013, 0x00D8, 0x014D, 0xDFFE, 0xC103, 16]
    [] (true, false, false, .running) = true := by decide
theorem test_rst38_V131 : gives (placed [(0xC000, 0xFF)]
    { ready with sp := 0xDFFE }) [0x01, 0xB0, 0x0013, 0x00D8, 0x014D, 0xDFFC, 0x0038, 16]
    [(0xDFFC, 0x01), (0xDFFD, 0xC0)] = true := by decide
theorem test_rst08_V132 : gives (placed [(0xC000, 0xCF)]
    { ready with sp := 0xDFFE }) [0x01, 0xB0, 0x0013, 0x00D8, 0x014D, 0xDFFC, 0x0008, 16]
    [(0xDFFC, 0x01), (0xDFFD, 0xC0)] = true := by decide
theorem test_nop_V133 : gives (placed [(0xC000, 0x00)]
    { ready with f := 0xF0 }) [0x01, 0xF0, 0x0013, 0x00D8, 0x014D, 0xFFFE, 0xC001, 4]
    [] = true := by decide
theorem test_di_V134 : gives (placed [(0xC000, 0xF3)]
    { ready with ime := true }) [0x01, 0xB0, 0x0013, 0x00D8, 0x014D, 0xFFFE, 0xC001, 4]
    [] = true := by decide
theorem test_ei_V135 : leaves (placed [(0xC000, 0xFB)]
    ready) [0x01, 0xB0, 0x0013, 0x00D8, 0x014D, 0xFFFE, 0xC001, 4]
    [] (false, true, false, .running) = true := by decide
theorem test_stop_V137 : leaves (placed [(0xC000, 0x10), (0xC001, 0x00)]
    ready) [0x01, 0xB0, 0x0013, 0x00D8, 0x014D, 0xFFFE, 0xC002, 4]
    [] (false, false, false, .stopped) = true := by decide
theorem test_halt_V139 : leaves (placed [(0xC000, 0x76), (0xFF0F, 0x04), (0xFFFF, 0x04)]
    ready) [0x01, 0xB0, 0x0013, 0x00D8, 0x014D, 0xFFFE, 0xC001, 4]
    [] (false, false, true, .running) = true := by decide
theorem test_halt_V140 : leaves (placed [(0xC000, 0x76), (0xFF0F, 0x04), (0xFFFF, 0x04)]
    { ready with config := { defaultConfig with haltBug := false } }) [0x01, 0xB0, 0x0013, 0x00D8, 0x014D, 0xFFFE, 0xC001, 4]
    [] (false, false, false, .halted) = true := by decide

/-! ### Interrupts, low-power states, EI and the fault (60_exceptions.md; I3 to I13) -/

/-- Bits 7..5 of IF are written back as read. -/
theorem test_interrupt_I3 : leaves (placed [(0xFF0F, 0xE1), (0xFFFF, 0x01)] { ready with sp := 0xDFFE, ime := true })
    [0x01, 0xB0, 0x0013, 0x00D8, 0x014D, 0xDFFC, 0x0040, 20] [(0xFF0F, 0xE0), (0xDFFC, 0x00), (0xDFFD, 0xC0)]
    (false, false, false, .running) = true := by decide
/-- A request without its enable is not taken. -/
theorem test_interrupt_I4 : leaves (placed [(0xFF0F, 0x02), (0xFFFF, 0x1D)] { ready with sp := 0xDFFE, ime := true })
    [0x01, 0xB0, 0x0013, 0x00D8, 0x014D, 0xDFFE, 0xC001, 4] [] (true, false, false, .running) = true := by decide
/-- A dispatch drops a delayed EI (the second step of I6). -/
theorem test_interrupt_I6 : leaves (placed [(0xFF0F, 0x01), (0xFFFF, 0x01)]
    { ready with pc := 0xC001, sp := 0xDFFE, ime := true, eiPending := true })
    [0x01, 0xB0, 0x0013, 0x00D8, 0x014D, 0xDFFC, 0x0040, 20] [(0xFF0F, 0x00), (0xDFFC, 0x01), (0xDFFD, 0xC0)]
    (false, false, false, .running) = true := by decide
/-- The pushed low byte lands in IE, after IE was read. -/
theorem test_interrupt_I8 : leaves (placed [(0xFF0F, 0x10), (0xFFFF, 0x10)] { ready with sp := 0x0001, ime := true })
    [0x01, 0xB0, 0x0013, 0x00D8, 0x014D, 0xFFFF, 0x0060, 20] [(0xFF0F, 0x00), (0xFFFF, 0x00), (0x0000, 0xC0)]
    (false, false, false, .running) = true := by decide
/-- A stopped core with nothing requested idles (the second step of I9). -/
theorem test_stopped_I9_idle : leaves { ready with pc := 0xC002, a := 0x00, f := 0x00, mode := .stopped }
    [0x00, 0x00, 0x0013, 0x00D8, 0x014D, 0xFFFE, 0xC002, 4] [] (false, false, false, .stopped) = true := by decide
/-- A joypad request ends STOP, with IE=0 and IME=0, and the next instruction runs in the same step (the third step of I9). -/
theorem test_stopped_I9_wake : leaves (placed [(0xC002, 0x3C), (0xFF0F, 0x10)]
    { ready with pc := 0xC002, a := 0x00, f := 0x00, mode := .stopped })
    [0x01, 0x00, 0x0013, 0x00D8, 0x014D, 0xFFFE, 0xC003, 8] [] (false, false, false, .running) = true := by decide
/-- A halted core with IME=0 goes on after the HALT, without a dispatch (the third step of I10). -/
theorem test_halted_I10_wake : leaves (placed [(0xFF0F, 0x01), (0xFFFF, 0x01)] { ready with pc := 0xC001, mode := .halted })
    [0x01, 0xB0, 0x0013, 0x00D8, 0x014D, 0xFFFE, 0xC002, 8] [] (false, false, false, .running) = true := by decide
/-- A halted core with IME=1 wakes and takes the interrupt in one step (the third step of I11). -/
theorem test_halted_I11_dispatch : leaves (placed [(0xFF0F, 0x04), (0xFFFF, 0x04)]
    { ready with pc := 0xC001, sp := 0xDFFE, ime := true, mode := .halted })
    [0x01, 0xB0, 0x0013, 0x00D8, 0x014D, 0xDFFC, 0x0050, 24] [(0xFF0F, 0x00), (0xDFFC, 0x01), (0xDFFD, 0xC0)]
    (false, false, false, .running) = true := by decide
/-- HALT's bug: INC A runs and PC stays at it (the second step of I12). -/
theorem test_halt_bug_I12 : leaves (placed [(0xC001, 0x3C), (0xFF0F, 0x01), (0xFFFF, 0x01)]
    { ready with pc := 0xC001, a := 0x00, f := 0x00, haltBug := true })
    [0x01, 0x00, 0x0013, 0x00D8, 0x014D, 0xFFFE, 0xC001, 4] [] (false, false, false, .running) = true := by decide
/-- HALT's bug on a 2-byte instruction: 0x06 is its own operand, so B = 0x06 (the second step of I13). -/
theorem test_halt_bug_I13 : leaves (placed [(0xC001, 0x06), (0xC002, 0x3C), (0xFF0F, 0x01), (0xFFFF, 0x01)]
    { ready with pc := 0xC001, a := 0x00, f := 0x00, haltBug := true })
    [0x00, 0x00, 0x0613, 0x00D8, 0x014D, 0xFFFE, 0xC002, 8] [] (false, false, false, .running) = true := by decide
/-- EI's delayed effect is taken by the next instruction (the second step of I5). -/
theorem test_ei_delay_I5 : leaves (placed [(0xFF0F, 0x01), (0xFFFF, 0x01)]
    { ready with pc := 0xC001, sp := 0xDFFE, eiPending := true })
    [0x01, 0xB0, 0x0013, 0x00D8, 0x014D, 0xDFFE, 0xC002, 4] [] (true, false, false, .running) = true := by decide

/-- The fault of an outcome. -/
def faultOf : Result → Option (Byte × Word × State)
  | .fault (.invalidOpcode op pc s) => some (op, pc, s)
  | .next _ => none
  | .refused _ => none

/-- V142: nothing changes but `fault`, and the opcode read is the one bus call. -/
theorem test_illegalD3_V142 :
    (faultOf (step (placed [(0xC000, 0xD3)] { ready with a := 0x11, f := 0xF0 }))).any (fun x =>
      x.1 == 0xD3 && x.2.1 == 0xC000 && regs x.2.2 == [0x11, 0xF0, 0x0013, 0x00D8, 0x014D, 0xFFFE, 0xC000, 0] &&
      x.2.2.fault == some { opcode := 0xD3, pc := 0xC000 } && x.2.2.bus == [.read 0xC000 0xD3]) = true := by decide
/-- V143, its second step: the same fault, and no bus call. -/
theorem test_illegalFD_V143 :
    (faultOf (step (placed [(0xC000, 0xFD)] { ready with fault := some { opcode := 0xFD, pc := 0xC000 } }))).any (fun x =>
      x.1 == 0xFD && x.2.1 == 0xC000 && x.2.2.bus == [] && x.2.2.cycles == 0) = true := by decide

/-! ### Placing an instruction -/

/-- The first step after reset runs the instruction of a table word: LD A,n8 with an operand byte of 0 (R142). -/
theorem test_withFetchWord_base : gives (State.reset.withFetchWord 8 0x3E)
    [0x00, 0xB0, 0x0013, 0x00D8, 0x014D, 0xFFFE, 0x0102, 8] [] = true := by decide
/-- The same for a row of the CB map: SWAP A (R127). -/
theorem test_withFetchWord_cb : gives (State.reset.withFetchWord 16 0xCB37)
    [0x10, 0x00, 0x0013, 0x00D8, 0x014D, 0xFFFE, 0x0102, 8] [] = true := by decide

/-! ### Memory -/

/-- Writing what an unlisted address reads as takes the cell away: equal memories are equal lists. -/
theorem test_memory_canonical :
    Memory.write (Memory.write (Memory.write [] 5 0x11) 3 0x22) 5 0x00 = [(3, 0x22)] ∧ Memory.write [] 7 0x00 = [] := by
  decide
theorem test_memory_wf_refuses_zero_cell : Memory.wf [(3, 0x00)] = false := by decide
theorem test_memory_wf_refuses_unsorted : Memory.wf [(5, 0x11), (3, 0x22)] = false := by decide

/-! ### A cycle table given as lists (log entry 15) -/

theorem test_cycle_list_entry_and_past : baseCycles (.other [⟨7, by decide⟩] []) 0x00 0 = 7 ∧
    baseCycles (.other [⟨7, by decide⟩] []) 0xCD 0 = 24 := by decide

/-! ### Witnesses: the hypotheses of every obligation that has some, met by a concrete state and operands -/

/-- Two sequential cells of code, running, no fault, IME=0. -/
def plain : State := placed [(0xC000, 0x3E), (0xC001, 0x05)] ready

theorem witness_DecodeOfEncode : WellFormed (.ldAtA16Sp 0xFFFF) ∧ WellFormed .set7A := by decide
theorem witness_EncodeOfDecode : decode [0xCB, 0xFF, 0x00] = .ok (.set7A, [0x00]) := by decide
theorem witness_DaaMakesDecimalSums : (99 < 100 ∧ 0 < 100) ∧ ({ ready with a := bcd 99 }).a = bcd 99 := by decide
theorem witness_SignedAddToSpHardware : State.reset.config.signedAddFlags = .hardware := by decide
theorem witness_SignedAddToSpMagnitude :
    ({ ready with config := { defaultConfig with signedAddFlags := .magnitude } }).config.signedAddFlags = .magnitude := by
  decide
theorem witness_SignedAddReadingsAgreeBelow128 : (0x7F#8).toNat < 128 ∧ (0x80#8).toNat ≥ 128 := by decide
theorem witness_OnlyIllegalOpcodesFail : ∀ x, Instr.ldAN8 5 ≠ illegalInstr x := by
  intro x; cases x <;> decide
theorem witness_PopAfterPush : StackPair.bc ≠ .af ∧ StackPair.af = .af := by decide

/-- A condition that holds and one that does not, for the clauses of the conditional jumps, calls and returns. -/
theorem witness_conditions : holds ready .z = true ∧ holds ready .nz = false ∧ holds ready .c = true ∧ holds ready .nc = false := by
  decide

/-- A stored byte's address and another one; the two addresses of a word, at the wrap of the address space (R34). -/
theorem witness_stored_addresses : (0xFFFF#16) + 1 = 0x0000#16 ∧ (0x0000#16) ≠ 0xFFFF#16 ∧ (0x1234#16) ≠ 0xFFFF#16 := by decide

/-- HALT with its bug and without: both clauses of R181. -/
theorem witness_HaltHaltsUnlessBug :
    (placed [(0xFF0F, 0x04), (0xFFFF, 0x04)] ready).haltFails = true ∧ ready.haltFails = false := by decide

theorem witness_Fetches : Fetches plain := by decide

/-- A fetch in a step that wakes a halted core with IME=0, and one with IME=1 and nothing pending. -/
theorem witness_Fetches_after_check :
    Fetches (placed [(0xFF0F, 0x01), (0xFFFF, 0x01)] { ready with mode := .halted }) ∧ Fetches { ready with ime := true } := by
  decide
theorem witness_StepRunsDecodedInstruction : Fetches plain ∧ plain.haltBug = false ∧
    decode [plain.busRead plain.pc, plain.busRead (plain.pc + 1), plain.busRead (plain.pc + 2)] = .ok (.ldAN8 5, [0x00]) ∧
    ∀ x, Instr.ldAN8 5 ≠ illegalInstr x := ⟨by decide, by decide, by decide, witness_OnlyIllegalOpcodesFail⟩
theorem witness_HaltBugRereadsOpcode :
    let s := { plain with haltBug := true }
    Fetches s ∧ s.haltBug = true ∧
    decode [s.busRead s.pc, s.busRead s.pc, s.busRead (s.pc + 1)] = .ok (.ldAN8 0x3E, [0x05]) ∧
    ∀ x, Instr.ldAN8 0x3E ≠ illegalInstr x := ⟨by decide, by decide, by decide, by intro x; cases x <;> decide⟩
theorem witness_StepFaultsOnIllegalOpcode :
    let s := placed [(0xC000, 0xFD)] ready
    Fetches s ∧ s.busRead s.pc ∈ illegalOpcodes := by decide
theorem witness_FaultIsAbsorbing :
    ({ ready with fault := some { opcode := 0xD3, pc := 0xC000 } }).fault = some { opcode := 0xD3, pc := 0xC000 } := by decide

/-- The hypotheses of the taking of an interrupt for a source, all requests above it absent. -/
abbrev taken (s : State) (i : Nat) : Prop := s.fault = none ∧ s.awake = true ∧ s.ime = true ∧ i < 5 ∧
  (s.busRead 0xFF0F#16 &&& s.busRead 0xFFFF#16).getLsbD i = true ∧
  ∀ j < i, (s.busRead 0xFF0F#16 &&& s.busRead 0xFFFF#16).getLsbD j = false

theorem witness_InterruptIsTaken_first : taken (placed [(0xFF0F, 0x1F), (0xFFFF, 0x1F)] { ready with ime := true }) 0 := by decide
theorem witness_InterruptIsTaken_last : taken (placed [(0xFF0F, 0xF0), (0xFFFF, 0x1F)] { ready with ime := true }) 4 := by decide
theorem witness_InterruptIsTaken_stack_over_if :
    taken (placed [(0xFF0F, 0x02), (0xFFFF, 0x02)] { ready with ime := true, sp := 0xFF10 }) 1 := by decide
theorem witness_IdleStepChangesNothing :
    (let s : State := { ready with mode := .halted }
     s.fault = none ∧ s.mode = .halted ∧ s.busRead 0xFF0F#16 &&& s.busRead 0xFFFF#16 &&& 0x1F#8 = 0#8) ∧
    (let s : State := { ready with mode := .stopped }
     s.fault = none ∧ s.mode = .stopped ∧
       stopWakes s.config.stopWake (s.busRead 0xFF0F#16) (s.busRead 0xFFFF#16) = false) := by decide
theorem witness_StopIsLeftByJoypadRequest :
    let s := placed [(0xFF0F, 0x10)] { ready with mode := .stopped }
    s.mode = .stopped ∧ s.config.stopWake = defaultConfig.stopWake ∧ s.awake = true := by decide
theorem witness_OnlyDiAndRetiWriteIme : exec .nop ready = .next ready ∧ Instr.nop ≠ .di ∧ Instr.nop ≠ .reti :=
  ⟨rfl, by decide, by decide⟩
theorem witness_EiDelaysByOneInstruction :
    let s := placed [(0xC000, 0xFB), (0xFF0F, 0x01), (0xFFFF, 0x01)] ready
    s.fault = none ∧ s.mode = .running ∧ s.ime = false ∧ s.eiPending = false ∧ s.haltBug = false ∧ s.busRead s.pc = 0xFB#8 ∧
    s.busRead (s.pc + 1) = 0x00#8 ∧ s.pending ≠ 0#8 := by decide
theorem witness_DeviceRequestWakesHaltedCore :
    let s := placed [(0xFFFF, 0x10)] { ready with mode := .halted }
    s.mode = .halted ∧ (s.busRead 0xFFFF#16).getLsbD (sourceBit .joypad) = true ∧ (0 : Nat) ≠ sourceBit .joypad := by decide
theorem witness_StepKeepsInvariant : State.reset.Inv ∧ ∃ t, step State.reset = .next t :=
  ⟨⟨rfl, rfl, ⟨fun h => absurd h (by decide), fun h => absurd rfl h, fun _ h => nomatch h⟩⟩, _, rfl⟩
/-- A halted state and one with HALT's bug pending meet the invariant too. -/
theorem witness_invariant_hidden : ({ ready with mode := .halted }).HiddenAgree ∧ ({ ready with haltBug := true }).HiddenAgree :=
  ⟨⟨fun h => absurd h (by decide), fun _ => rfl, fun _ h => nomatch h⟩,
    ⟨fun _ => ⟨rfl, rfl, rfl, rfl⟩, fun h => absurd rfl h, fun _ h => nomatch h⟩⟩
theorem witness_StepKeepsParameters : ∃ t, step State.reset = .next t := ⟨_, rfl⟩
/-- Another flag's bit, and a bit of the low nibble, for the clause of the untouched bits. -/
theorem witness_PairsAliasHalvesFlagsAreIndependent : 6 ≠ Flag.bit .z ∧ 0 ≠ Flag.bit .z ∧ R8.b ≠ R8.c := by decide
/-- The state after reset has a clear low nibble of F, for the clause of AF. -/
theorem witness_PairsAliasHalves_af : State.reset.lowNibbleClear ∧ State.reset.af = 0x01B0#16 := by decide
theorem witness_ResetSetsRegisters : ready.resetCore = ready.resetCore ∨ ready.resetCore = State.reset := .inl rfl

end Sys2Proof.Tests
end

section
/-! The register file after `reset()` (R26): the values the spec gives, from any state. -/

namespace Sys2Proof.Machine

/-- The machine's first state is a fixed point of `reset()`, so what `reset()` gives from any state holds of it too. -/
theorem State.resetCore_reset : State.reset.resetCore = State.reset := rfl

/-! The eight registers hold R26's values; the pairs are their joins (R14). -/

@[simp] theorem State.a_resetCore (s : State) : s.resetCore.a = 0x01#8 := rfl
@[simp] theorem State.f_resetCore (s : State) : s.resetCore.f = 0xB0#8 := rfl
@[simp] theorem State.b_resetCore (s : State) : s.resetCore.b = 0x00#8 := rfl
@[simp] theorem State.c_resetCore (s : State) : s.resetCore.c = 0x13#8 := rfl
@[simp] theorem State.d_resetCore (s : State) : s.resetCore.d = 0x00#8 := rfl
@[simp] theorem State.e_resetCore (s : State) : s.resetCore.e = 0xD8#8 := rfl
@[simp] theorem State.h_resetCore (s : State) : s.resetCore.h = 0x01#8 := rfl
@[simp] theorem State.l_resetCore (s : State) : s.resetCore.l = 0x4D#8 := rfl
@[simp] theorem State.sp_resetCore (s : State) : s.resetCore.sp = 0xFFFE#16 := rfl
@[simp] theorem State.pc_resetCore (s : State) : s.resetCore.pc = 0x0100#16 := rfl
@[simp] theorem State.ime_resetCore (s : State) : s.resetCore.ime = false := rfl

@[simp] theorem State.af_resetCore (s : State) : s.resetCore.af = 0x01B0#16 := by simp [State.af, joinBytes]
@[simp] theorem State.bc_resetCore (s : State) : s.resetCore.bc = 0x0013#16 := by simp [State.bc, joinBytes]
@[simp] theorem State.de_resetCore (s : State) : s.resetCore.de = 0x00D8#16 := by simp [State.de, joinBytes]
@[simp] theorem State.hl_resetCore (s : State) : s.resetCore.hl = 0x014D#16 := by simp [State.hl, joinBytes]

end Sys2Proof.Machine

namespace Sys2Proof.Proofs

open Sys2Proof.Machine

/-- Settles O54: the first state is itself a state after `reset()`, so one lemma per register about `resetCore` answers both cases. -/
theorem resetSetsRegisters : Obligations.ResetSetsRegisters := by
  intro s r hr
  obtain ⟨s₀, rfl⟩ : ∃ s₀ : State, r = s₀.resetCore := by
    rcases hr with rfl | rfl
    · exact ⟨s, rfl⟩
    · exact ⟨State.reset, State.resetCore_reset.symm⟩
  simp

end Sys2Proof.Proofs
end

section
/-! The accumulator operations and DAA (40_alu8.md, R65, R66, R70 to R93, R98): where they stand in the opcode map, what they leave in
the state, and their results and flags on numbers. -/

namespace Sys2Proof.Machine

open Sys2Proof.Claims

/-! ### Where the accumulator operations stand in the opcode map (R53) -/

/-- The 3-bit code of an accumulator operation, bits 5 to 3 of its opcode (R53). -/
def aluCode : AluOp → Byte
  | .add => 0
  | .adc => 1
  | .sub => 2
  | .sbc => 3
  | .and => 4
  | .xor => 5
  | .or => 6
  | .cp => 7

/-- The register and (HL) forms stand from 0x80 on in rows of eight, the immediate form in the same order from 0xC6 on. -/
theorem aluRows (op : AluOp) : AluRows op (0x80 + 8 * aluCode op) (0xC6 + 8 * aluCode op) := by
  refine ⟨fun r => ?reg, ?atHl, fun n => ?imm⟩
  case reg => cases op <;> cases r <;> exact ⟨rfl, rfl, rfl⟩
  case atHl => cases op <;> exact ⟨rfl, rfl, rfl⟩
  case imm => cases op <;> exact ⟨rfl, rfl, rfl⟩

/-! ### What an accumulator operation leaves in the state (R70 to R93) -/

variable (s : State)

/-- The four flags are written, then A unless the operation is CP. -/
theorem State.alu_eq (op : AluOp) (v : Byte) :
    s.alu op v =
      let r := aluOut op s.a v (s.flag .c)
      { s.setFlags r.z r.n r.h r.c with a := if aluWritesA op then r.res else s.a } := by
  cases h : aluWritesA op <;> simp only [State.alu, h] <;> rfl

/-- The source is read, with the bus calls that takes, and the operation is done on its value. -/
theorem exec_aluInstr (op : AluOp) (src : AluSource) :
    exec (aluInstr op src) s = .next ({ s with bus := s.bus ++ reads s src }.alu op (value s src)) := by
  cases src with
  | reg r => simp [aluInstr, value, reads]
  | atHl => exact exec_aluAtHl s op
  | imm n => simp [aluInstr, value, reads]

/-- Every accumulator operation on every source, by the result and flags `r` that `aluOut` gives for it: A, the four flags and the
frame. -/
theorem exec_aluInstr_spec {op : AluOp} {src : AluSource} {r : AluOut} (hr : aluOut op s.a (value s src) (s.flag .c) = r) :
    ∃ t, exec (aluInstr op src) s = .next t ∧ t.a = (if aluWritesA op then r.res else s.a) ∧
      t.flag .z = r.z ∧ t.flag .n = r.n ∧ t.flag .h = r.h ∧ t.flag .c = r.c ∧ OnlyAF s t (reads s src) := by
  subst hr
  refine ⟨_, (exec_aluInstr s op src).trans (congrArg _ (State.alu_eq _ op _)), rfl, ?_⟩
  exact ⟨State.flag_setFlags s .z .., State.flag_setFlags s .n .., State.flag_setFlags s .h .., State.flag_setFlags s .c ..,
    rfl, State.setFlags_low s ..⟩

/-! ### Sums and differences on numbers (R65, R66) -/

theorem bit8_toNat (b : Bool) : (bit8 b).toNat = b.toNat := by cases b <;> rfl

theorem add8_res_toNat (a v : Byte) (cin : Bool) :
    (add8 a v cin).res.toNat = (a.toNat + v.toNat + cin.toNat) % 256 := by
  simp [add8, BitVec.toNat_add, bit8_toNat]

theorem sub8_res_toNat (a v : Byte) (cin : Bool) :
    (sub8 a v cin).res.toNat = (a.toNat + 512 - v.toNat - cin.toNat) % 256 := by
  have hv := v.isLt
  have hcin := cin.toNat_lt
  simp only [sub8, BitVec.toNat_sub, bit8_toNat]
  omega

/-- Without a borrow-in the difference is 0 exactly when the operands are equal. -/
theorem sub8_z_eq_decide (a v : Byte) : (sub8 a v false).z = decide (a = v) := by
  have equal : a - v = 0#8 ↔ a = v := by bv_omega
  rw [Bool.eq_iff_iff]
  simpa [sub8, bit8] using equal

/-- A carry that only the operation with carry reads, as the statements write it. -/
theorem carryIn_toNat (withCarry carry : Bool) :
    (if withCarry then one carry else 0) = (withCarry && carry).toNat := by
  cases withCarry <;> cases carry <;> rfl

theorem aluWritesA_addition (withCarry : Bool) : aluWritesA (if withCarry then .adc else .add) = true := by
  cases withCarry <;> rfl

theorem aluOut_addition (withCarry : Bool) (a v : Byte) (carry : Bool) :
    aluOut (if withCarry then .adc else .add) a v carry = add8 a v (withCarry && carry) := by
  cases withCarry <;> rfl

theorem aluWritesA_subtraction (withCarry : Bool) : aluWritesA (if withCarry then .sbc else .sub) = true := by
  cases withCarry <;> rfl

theorem aluOut_subtraction (withCarry : Bool) (a v : Byte) (carry : Bool) :
    aluOut (if withCarry then .sbc else .sub) a v carry = sub8 a v (withCarry && carry) := by
  cases withCarry <;> rfl

/-! ### DAA's two corrections on numbers (R98) -/

/-- Does DAA correct the low digit by 0x06? -/
def daaFixesLow (a : Byte) (n h : Bool) : Bool := h || (!n && decide (a.toNat % 16 > 9))

/-- C after DAA is 1 when it was 1 or an addition left more than 0x99. -/
theorem daaCarry_eq (a : Byte) (n c : Bool) : daaCarry a n c = (c || (!n && decide (a.toNat > 0x99))) := by
  cases n with
  | true => simp [daaCarry, daaHigh]
  | false => by_cases h : a.toNat > 0x99 <;> cases c <;> simp [daaCarry, daaHigh, h]

/-- DAA corrects the high digit exactly when C is 1 after it. -/
theorem daaHigh_fst (a : Byte) (n c : Bool) :
    (daaHigh a n c).1 = if daaCarry a n c then (if n then a - 0x60#8 else a + 0x60#8) else a := by
  rw [daaCarry_eq]
  cases n <;> simp [daaHigh, apply_ite Prod.fst]

theorem daaLow_eq (a : Byte) (n h : Bool) :
    daaLow a n h = if daaFixesLow a n h then (if n then a - 0x06#8 else a + 0x06#8) else a := by
  have low : (a &&& 0x0F#8).toNat = a.toNat % 16 := Nat.and_two_pow_sub_one_eq_mod a.toNat 4
  cases n <;> simp [daaLow, daaFixesLow, low]

/-- The correction of the high digit keeps the low one, so the two corrections can be told from the same byte. -/
theorem daaFixesLow_daaHigh (a : Byte) (n h c : Bool) : daaFixesLow (daaHigh a n c).1 n h = daaFixesLow a n h := by
  have low : (daaHigh a n c).1.toNat % 16 = a.toNat % 16 := by
    rw [daaHigh_fst]
    split_ifs <;> bv_omega
  rw [daaFixesLow, low, daaFixesLow]

/-- DAA adds the two corrections, or subtracts them after a subtraction. -/
theorem daaResult_toNat (a : Byte) (n h c : Bool) :
    let sum := (if daaCarry a n c then 0x60 else 0) + (if daaFixesLow a n h then 0x06 else 0)
    (daaResult a n h c).toNat = (if n then a.toNat + 256 - sum else a.toNat + sum) % 256 := by
  rw [daaResult, daaLow_eq, daaFixesLow_daaHigh, daaHigh_fst]
  dsimp only
  split_ifs <;> bv_omega

/-- DAA's writes of Z, H and C keep N, and the low nibble of F. -/
theorem execDaa_spec :
    let res := daaResult s.a (s.flag .n) (s.flag .h) (s.flag .c)
    ∃ t, exec .daa s = .next t ∧ t.a = res ∧ t.flag .z = (res == 0#8) ∧ t.flag .n = s.flag .n ∧ t.flag .h = false ∧
      t.flag .c = daaCarry s.a (s.flag .n) (s.flag .c) ∧ OnlyAF s t [] := by
  refine ⟨_, rfl, rfl, by simp, by simp, by simp, by simp, ?frame, ?low⟩
  case frame => rw [List.append_nil]; rfl
  case low => simp [lowNibble_putBit]

end Sys2Proof.Machine

namespace Sys2Proof.Proofs

open Sys2Proof.Machine Sys2Proof.Claims

/-- Settles O6: an addition is `add8` on the source's value, with the carry-in of ADC. -/
theorem additionsSetAAndFlags : Obligations.AdditionsSetAAndFlags := by
  refine ⟨aluRows .add, aluRows .adc, fun withCarry src s => ?_⟩
  obtain ⟨t, hexec, ha, hz, hn, hh, hc, hframe⟩ := exec_aluInstr_spec s (src := src) (aluOut_addition withCarry ..)
  rw [if_pos (aluWritesA_addition withCarry)] at ha
  refine ⟨t, hexec, ?_, hframe⟩
  dsimp only
  rw [carryIn_toNat, ha]
  exact ⟨add8_res_toNat .., hz, hn, hh, hc⟩

/-- Settles O7: a subtraction is `sub8` on the source's value, with the borrow-in of SBC. -/
theorem subtractionsSetAAndFlags : Obligations.SubtractionsSetAAndFlags := by
  refine ⟨aluRows .sub, aluRows .sbc, fun withCarry src s => ?_⟩
  obtain ⟨t, hexec, ha, hz, hn, hh, hc, hframe⟩ := exec_aluInstr_spec s (src := src) (aluOut_subtraction withCarry ..)
  rw [if_pos (aluWritesA_subtraction withCarry)] at ha
  refine ⟨t, hexec, ?_, hframe⟩
  dsimp only
  rw [carryIn_toNat, ha]
  exact ⟨sub8_res_toNat .., hz, hn, hh, hc⟩

/-- Settles O8: CP is `sub8` without a borrow-in, its result discarded; it is 0 exactly when A is the operand. -/
theorem compareWritesOnlyFlags : Obligations.CompareWritesOnlyFlags := by
  refine ⟨aluRows .cp, fun src s => ?_⟩
  obtain ⟨t, hexec, ha, hz, hn, hh, hc, hframe⟩ := exec_aluInstr_spec s (op := .cp) (src := src) rfl
  refine ⟨t, hexec, ha, ?_, hn, hh, hc, hframe⟩
  rw [hz]
  exact sub8_z_eq_decide ..

/-- Settles O12: DAA's two corrections on numbers, told from A, N, H and C before it. -/
theorem daaAdjusts : Obligations.DaaAdjusts := by
  refine ⟨⟨rfl, rfl, rfl⟩, fun s => ?_⟩
  obtain ⟨t, hexec, ha, hz, hn, hh, hc, hframe⟩ := execDaa_spec s
  refine ⟨t, hexec, ⟨?_, hc.trans (daaCarry_eq ..)⟩, ha ▸ hz, hn, hh, hframe⟩
  rw [ha, daaResult_toNat, daaCarry_eq]
  rfl

end Sys2Proof.Proofs
end

section
/-! The CB rotates and shifts, RES and SET (42_rotate_shift_bit.md, R114 to R130, R133 to R136): where they stand in the secondary
map, what the two operand forms leave in the state, and their results bit by bit and on numbers. -/

namespace Sys2Proof.Machine

open Sys2Proof.Claims

/-! ### Where they stand in the secondary map (R49, R53, R57) -/

theorem shiftRegRow (op : ShiftOp) (r : R8) : Row (shiftRegInstr op r) [0xCB, 8 * shiftCode op + r8Code r] 8 := by
  cases op <;> cases r <;> exact ⟨rfl, rfl, rfl⟩

theorem shiftAtHlRow (op : ShiftOp) : Row (shiftAtHlInstr op) [0xCB, 8 * shiftCode op + 6] 16 := by
  cases op <;> exact ⟨rfl, rfl, rfl⟩

theorem resRegRow (k : BitNumber) (r : R8) : Row (resRegInstr k r) [0xCB, 0x80 + 8 * bitCode k + r8Code r] 8 := by
  cases k <;> cases r <;> exact ⟨rfl, rfl, rfl⟩

theorem setRegRow (k : BitNumber) (r : R8) : Row (setRegInstr k r) [0xCB, 0xC0 + 8 * bitCode k + r8Code r] 8 := by
  cases k <;> cases r <;> exact ⟨rfl, rfl, rfl⟩

theorem resAtHlRow (k : BitNumber) : Row (resAtHlInstr k) [0xCB, 0x86 + 8 * bitCode k] 16 := by
  cases k <;> exact ⟨rfl, rfl, rfl⟩

theorem setAtHlRow (k : BitNumber) : Row (setAtHlInstr k) [0xCB, 0xC6 + 8 * bitCode k] 16 := by
  cases k <;> exact ⟨rfl, rfl, rfl⟩

/-! ### The table of R114 on numbers -/

/-- A byte shifted left and one that fits in the bits this frees have no bit in common, so their union is their sum. -/
theorem shiftLeft_or_toNat (x y : Byte) {i : Nat} (hi : i ≤ 8) (hy : y.toNat < 2 ^ i) :
    (x <<< i ||| y).toNat = x.toNat * 2 ^ i % 256 + y.toNat := by
  obtain ⟨q, hq⟩ : 2 ^ i ∣ x.toNat * 2 ^ i % 256 :=
    (Nat.dvd_mod_iff (Nat.pow_dvd_pow 2 hi : 2 ^ i ∣ 2 ^ 8)).mpr (Nat.dvd_mul_left ..)
  rw [BitVec.toNat_or, BitVec.toNat_shiftLeft, Nat.shiftLeft_eq, hq, Nat.two_pow_add_eq_or_of_lt hy]

/-- A bit of a byte as a number. -/
theorem bitAt_toNat (v : Byte) (i : Nat) : (bitAt v i).toNat = v.toNat / 2 ^ i % 2 := Nat.toNat_testBit ..

/-- SRA keeps bit 7: it is bit 7 put back where it stood. -/
theorem and_0x80_eq (v : Byte) : v &&& 0x80#8 = bit8 (bitAt v 7) <<< 7 := by
  apply BitVec.eq_of_toNat_eq
  have bit : (v &&& 0x80#8).toNat = (bitAt v 7).toNat * 2 ^ 7 := Nat.and_two_pow v.toNat 7
  have := (bitAt v 7).toNat_lt
  rw [bit, BitVec.toNat_shiftLeft, bit8_toNat, Nat.shiftLeft_eq]
  omega

theorem one_eq_toNat (b : Bool) : one b = b.toNat := by cases b <;> rfl

/-- A carry shifted in at bit 0. -/
theorem shiftLeft_or_bit8_toNat (v : Byte) (b : Bool) : (v <<< 1 ||| bit8 b).toNat = v.toNat * 2 % 256 + b.toNat := by
  have hb := b.toNat_lt
  rw [shiftLeft_or_toNat v (bit8 b) (i := 1) (by decide) (by rwa [bit8_toNat]), bit8_toNat, Nat.pow_one]

/-- A carry shifted in at bit 7. -/
theorem ushiftRight_or_bit8_toNat (v : Byte) (b : Bool) :
    (v >>> 1 ||| bit8 b <<< 7).toNat = v.toNat / 2 + 128 * b.toNat := by
  have hb := b.toNat_lt
  have hv : (v >>> 1).toNat = v.toNat / 2 := by rw [BitVec.toNat_ushiftRight, Nat.shiftRight_eq_div_pow]
  have lt := v.isLt
  rw [BitVec.or_comm, shiftLeft_or_toNat (bit8 b) (v >>> 1) (i := 7) (by decide) (by omega), bit8_toNat, hv]
  omega

/-- The shift operations are the table's arithmetic (R114). -/
theorem shiftResult_toNat (op : ShiftOp) (v : Byte) (cin : Bool) :
    (shiftResult op v cin).toNat = shifted op v.toNat (one cin) := by
  have lt := v.isLt
  have bit0 := bitAt_toNat v 0
  have bit7 := bitAt_toNat v 7
  cases op with
  | rlc => simp only [shiftResult, shifted, shiftLeft_or_bit8_toNat]; omega
  | rrc => simp only [shiftResult, shifted, ushiftRight_or_bit8_toNat]; omega
  | rl => simp only [shiftResult, shifted, shiftLeft_or_bit8_toNat, one_eq_toNat]
  | rr => simp only [shiftResult, shifted, ushiftRight_or_bit8_toNat, one_eq_toNat]
  | sla => simp only [shiftResult, shifted, BitVec.toNat_shiftLeft, Nat.shiftLeft_eq, Nat.pow_one]
  | sra => simp only [shiftResult, shifted, and_0x80_eq, ushiftRight_or_bit8_toNat]; omega
  | swap =>
    have low : (v >>> 4).toNat = v.toNat / 16 := by rw [BitVec.toNat_ushiftRight, Nat.shiftRight_eq_div_pow]
    simp only [shiftResult, shifted]
    rw [shiftLeft_or_toNat v (v >>> 4) (by decide) (by omega), low]
    omega
  | srl => simp only [shiftResult, shifted, BitVec.toNat_ushiftRight, Nat.shiftRight_eq_div_pow, Nat.pow_one]

theorem shiftResult_eq_ofNat (op : ShiftOp) (v : Byte) (cin : Bool) :
    shiftResult op v cin = BitVec.ofNat 8 (shifted op v.toNat (one cin)) := by
  rw [← shiftResult_toNat, BitVec.ofNat_toNat, BitVec.setWidth_eq]

theorem shiftCarry_eq_shiftedOut (op : ShiftOp) (v : Byte) : shiftCarry op v = shiftedOut op v := by
  cases op <;> rfl

/-! ### One bit written (R133, R135) -/

theorem getLsbD_putBit (v : Byte) (k : Nat) (b : Bool) {i : Nat} (hi : i < 8) :
    (putBit v k b).getLsbD i = if i = k then b else v.getLsbD i := by
  split
  case isTrue h => exact h ▸ bitAt_putBit_same v i b hi
  case isFalse h => exact bitAt_putBit_other v k i b h

/-! ### What the two operand forms leave in the state -/

variable (s : State)

theorem onlyReg_setR8 (r : R8) (v : Byte) : OnlyReg s (s.setR8 r v) r v [] := by
  refine ⟨?frame, fun r' => s.r8_setR8 r r' v⟩
  rw [List.append_nil]
  cases r <;> rfl

theorem onlyRegF_setR8_setFlags (r : R8) (v : Byte) (z n h c : Bool) :
    OnlyRegF s ((s.setR8 r v).setFlags z n h c) r v := by
  refine ⟨?frame, fun r' => ?regs, ?low⟩
  case frame => cases r <;> rfl
  case regs => rw [State.r8_setFlags, State.r8_setR8]
  case low => rw [State.setFlags_low, State.setR8_f]

/-- A byte read and written back: two bus calls, and the memory. -/
theorem State.memWrite_logRead_eq (addr : Word) (v : Byte) : (s.logRead addr).memWrite addr v =
    { s with
      mem := ((s.logRead addr).memWrite addr v).mem
      bus := s.bus ++ [.read addr (s.busRead addr), .write addr v] } := by
  ext <;> simp

/-- With the flags written after it: F too, and nothing else. -/
theorem State.setFlags_memWrite_logRead_eq (addr : Word) (v : Byte) (z n h c : Bool) :
    let t := ((s.logRead addr).memWrite addr v).setFlags z n h c
    t = { s with f := t.f, mem := t.mem, bus := s.bus ++ [.read addr (s.busRead addr), .write addr v] } :=
  congrArg (·.setFlags z n h c) (s.memWrite_logRead_eq addr v)

theorem storedByte_memWrite_logRead (addr : Word) (v : Byte) :
    StoredByte s ((s.logRead addr).memWrite addr v) addr v := fun x => by
  rw [State.busRead_memWrite, State.busRead_logRead]

/-- A CB rotate or shift of an operand: the result of the table is written, then the four flags (R114). -/
theorem shiftOperand_eq (op : ShiftOp) (o : Operand8) :
    shiftOperand op o s =
      let v := (s.readOperand o).1
      let res := BitVec.ofNat 8 (shifted op v.toNat (one (s.flag .c)))
      .next (((s.readOperand o).2.writeOperand o res).setFlags (decide (res = 0#8)) false false (shiftedOut op v)) := by
  simp only [shiftOperand, shiftResult_eq_ofNat, shiftCarry_eq_shiftedOut]
  rfl

/-- An instruction that writes one bit of a register. -/
theorem putBitReg_spec {instr : Instr} {k : BitNumber} {r : R8} {b : Bool}
    (hexec : exec instr s = .next (s.setR8 r (putBit (s.r8 r) (bitIndex k) b))) :
    ∃ t v, exec instr s = .next t ∧ OnlyReg s t r v [] ∧
      ∀ i < 8, v.getLsbD i = if i = bitIndex k then b else (s.r8 r).getLsbD i :=
  ⟨_, _, hexec, onlyReg_setR8 s r _, fun _ hi => getLsbD_putBit _ _ _ hi⟩

/-- An instruction that writes one bit of the byte at HL. -/
theorem putBitAtHl_spec {instr : Instr} {k : BitNumber} {b : Bool}
    (hexec : exec instr s = .next ((s.logRead s.hl).memWrite s.hl (putBit (s.busRead s.hl) (bitIndex k) b))) :
    ∃ t v, exec instr s = .next t ∧ StoredByte s t s.hl v ∧
      t = { s with mem := t.mem, bus := s.bus ++ [.read s.hl (s.busRead s.hl), .write s.hl v] } ∧
      ∀ i < 8, v.getLsbD i = if i = bitIndex k then b else (s.busRead s.hl).getLsbD i :=
  ⟨_, _, hexec, storedByte_memWrite_logRead s s.hl _, s.memWrite_logRead_eq s.hl _, fun _ hi => getLsbD_putBit _ _ _ hi⟩

end Sys2Proof.Machine

namespace Sys2Proof.Proofs

open Sys2Proof.Machine Sys2Proof.Claims

/-- Settles O20: the table's result is written to the register, then the four flags. -/
theorem cbShiftsOfRegister : Obligations.CbShiftsOfRegister := by
  refine ⟨shiftRegRow, fun op r s => ?_⟩
  refine ⟨_, (exec_shiftReg s op r).trans (shiftOperand_eq s op (.reg r)), ⟨?frame, ?z⟩, ?n, ?h, ?c⟩
  case frame => exact onlyRegF_setR8_setFlags s r ..
  all_goals exact State.flag_setFlags _ _ ..

/-- Settles O21: the byte at HL is read, the table's result is written there, then the four flags. -/
theorem cbShiftsAtHl : Obligations.CbShiftsAtHl := by
  refine ⟨shiftAtHlRow, fun op s => ?_⟩
  refine ⟨_, (exec_shiftAtHl s op).trans (shiftOperand_eq s op .atHl), ⟨?stored, ?z, ?frame⟩, ?n, ?h, ?c, ?low⟩
  case stored => exact storedByte_memWrite_logRead s s.hl _
  case frame => exact s.setFlags_memWrite_logRead_eq s.hl ..
  case low => exact State.setFlags_low _ ..
  all_goals exact State.flag_setFlags _ _ ..

/-- Settles O23: RES writes 0 and SET writes 1 to one bit of the register. -/
theorem resSetRegister : Obligations.ResSetRegister :=
  ⟨fun k r => ⟨resRegRow k r, setRegRow k r⟩, fun k r s =>
    ⟨putBitReg_spec s (exec_resReg s k r), putBitReg_spec s (exec_setReg s k r)⟩⟩

/-- Settles O24: RES writes 0 and SET writes 1 to one bit of the byte at HL. -/
theorem resSetAtHl : Obligations.ResSetAtHl :=
  ⟨fun k => ⟨resAtHlRow k, setAtHlRow k⟩, fun k s =>
    ⟨putBitAtHl_spec s (exec_resAtHl s k), putBitAtHl_spec s (exec_setAtHl s k)⟩⟩

end Sys2Proof.Proofs
end

section
/-! The 8-bit loads and stores (43_load8.md, R141 to R159): where they stand in the opcode map, and what a load, a store and a step of
HL leave in the state. -/

namespace Sys2Proof.Machine

open Sys2Proof.Claims

/-! ### Where they stand in the opcode map (R50, R55) -/

theorem ldRegRegRow (dst r : R8) : Row (ldRegReg dst r) [0x40 + 8 * r8Code dst + r8Code r] 4 := by
  cases dst <;> cases r <;> exact ⟨rfl, rfl, rfl⟩

theorem ldRegImmRow (dst : R8) (n : Byte) : Row (ldRegImm dst n) [0x06 + 8 * r8Code dst, n] 8 := by
  cases dst <;> exact ⟨rfl, rfl, rfl⟩

theorem ldRegAtHlRow (dst : R8) : Row (ldRegAtHl dst) [0x46 + 8 * r8Code dst] 8 := by
  cases dst <;> exact ⟨rfl, rfl, rfl⟩

theorem ldAtHlRegRow (r : R8) : Row (ldAtHlReg r) [0x70 + r8Code r] 8 := by
  cases r <;> exact ⟨rfl, rfl, rfl⟩

/-- An instruction with a word operand has the operand's low byte first (R54). -/
theorem opWord_append (op hi lo : Byte) : opWord op (hi ++ lo) = [op, lo, hi] := by
  have low : lowByte (hi ++ lo) = lo := lowByte_joinBytes hi lo
  have high : highByte (hi ++ lo) = hi := highByte_joinBytes hi lo
  rw [opWord, low, high]

/-! ### What they leave in the state -/

/-- The high page as the statements write it: 0xFF is the high byte of the address (R54). -/
theorem highPage_eq_page (offset : Byte) : highPage offset = page offset := by
  apply BitVec.eq_of_toNat_eq
  have hlt := offset.isLt
  have hpage : (page offset).toNat = 0xFF * 256 + offset.toNat := joinBytes_toNat 0xFF#8 offset
  rw [hpage, highPage, zext16, BitVec.toNat_add, BitVec.toNat_setWidth, BitVec.toNat_ofNat]
  omega

variable (s : State)

/-- A register loaded with a byte that was read from the bus: the register, and one bus call. -/
theorem onlyReg_setR8_logRead (r : R8) (v : Byte) (addr : Word) :
    OnlyReg s ((s.logRead addr).setR8 r v) r v [.read addr (s.busRead addr)] := by
  refine ⟨?frame, fun r' => ?regs⟩
  case frame => cases r <;> rfl
  case regs => rw [State.r8_setR8, State.r8_logRead]

@[simp] theorem State.hl_setHl (v : Word) : (s.setHl v).hl = v := joinBytes_highByte_lowByte v

theorem storedByte_memWrite (addr : Word) (v : Byte) : StoredByte s (s.memWrite addr v) addr v :=
  fun x => State.busRead_memWrite s addr x v

/-- An instruction that is one write to the bus. -/
theorem memWrite_spec {instr : Instr} {addr : Word} {v : Byte} (hexec : exec instr s = .next (s.memWrite addr v)) :
    ∃ t, exec instr s = .next t ∧ StoredByte s t addr v ∧ t = { s with mem := t.mem, bus := s.bus ++ [.write addr v] } :=
  ⟨_, hexec, storedByte_memWrite s addr v, rfl⟩

/-- An instruction whose meaning is a load of A (R146, R147, R150, R152, R154). -/
theorem loadsA_of_exec_eq {instr : Instr} {addr : State → Word} (hexec : ∀ s, exec instr s = ldAFrom (addr s) s) :
    LoadsA instr addr := hexec

/-- An instruction whose meaning is a store of A (R148, R149, R151, R153, R155). -/
theorem storesA_of_exec_eq {instr : Instr} {addr : State → Word} (hexec : ∀ s, exec instr s = stAAt (addr s) s) :
    StoresA instr addr := fun s => by
  obtain ⟨t, hnext, hstored, hframe⟩ := memWrite_spec s (hexec s)
  exact ⟨t, hnext, hframe, hstored⟩

/-- A load of A through HL that then steps HL (R156, R158). -/
theorem ldAStep_spec {instr : Instr} {step : Word} (hexec : exec instr s = ldAStep step s) :
    ∃ t, exec instr s = .next t ∧ t.a = s.busRead s.hl ∧ t.hl = s.hl + step ∧
      t = { s with a := t.a, h := t.h, l := t.l, bus := s.bus ++ [.read s.hl (s.busRead s.hl)] } :=
  ⟨_, hexec, rfl, State.hl_setHl _ _, rfl⟩

/-- A store of A through HL that then steps HL (R157, R159). -/
theorem stAStep_spec {instr : Instr} {step : Word} (hexec : exec instr s = stAStep step s) :
    ∃ t, exec instr s = .next t ∧ StoredByte s t s.hl s.a ∧ t.hl = s.hl + step ∧
      t = { s with h := t.h, l := t.l, mem := t.mem, bus := s.bus ++ [.write s.hl s.a] } :=
  ⟨_, hexec, storedByte_memWrite s s.hl s.a, State.hl_setHl _ _, rfl⟩

end Sys2Proof.Machine

namespace Sys2Proof.Proofs

open Sys2Proof.Machine Sys2Proof.Claims

/-- Settles O25: each form writes one register, from a register, the instruction or the byte at HL. -/
theorem loadsOfRegister : Obligations.LoadsOfRegister := by
  refine ⟨fun dst => ⟨ldRegRegRow dst, ldRegImmRow dst, ldRegAtHlRow dst⟩, fun dst s => ⟨fun r => ?reg, fun n => ?imm, ?atHl⟩⟩
  case reg => exact ⟨_, exec_ldRegReg s dst r, onlyReg_setR8 s dst _⟩
  case imm => exact ⟨_, exec_ldRegImm s dst n, onlyReg_setR8 s dst n⟩
  case atHl => exact ⟨_, exec_ldRegAtHl s dst, onlyReg_setR8_logRead s dst _ s.hl⟩

/-- Settles O26: both forms are one write at HL. -/
theorem storesAtHl : Obligations.StoresAtHl :=
  ⟨ldAtHlRegRow, fun _ => ⟨rfl, rfl, rfl⟩, fun s =>
    ⟨fun r => memWrite_spec s (exec_ldAtHlReg s r), fun _ => memWrite_spec s rfl⟩⟩

/-- Settles O28: each form is one write of A at its address. -/
theorem storesOfAccumulator : Obligations.StoresOfAccumulator := by
  refine ⟨⟨⟨rfl, rfl, rfl⟩, ⟨rfl, rfl, rfl⟩, fun hi lo => ⟨rfl, opWord_append 0xEA hi lo, rfl⟩, ⟨rfl, rfl, rfl⟩,
    fun _ => ⟨rfl, rfl, rfl⟩⟩, ?bc, ?de, fun addr => ?absolute, ?pageC, fun o => ?pageImm⟩
  case bc => exact storesA_of_exec_eq fun _ => rfl
  case de => exact storesA_of_exec_eq fun _ => rfl
  case absolute => exact storesA_of_exec_eq fun _ => rfl
  case pageC => exact storesA_of_exec_eq fun s => congrArg (stAAt · s) (highPage_eq_page s.c)
  case pageImm => exact storesA_of_exec_eq fun s => congrArg (stAAt · s) (highPage_eq_page o)

/-- Settles O29: the access is at HL as it was, and stepping down adds 0xFFFF, which is -1 modulo 0x10000. -/
theorem postStepThroughHl : Obligations.PostStepThroughHl :=
  ⟨⟨⟨rfl, rfl, rfl⟩, ⟨rfl, rfl, rfl⟩, ⟨rfl, rfl, rfl⟩, ⟨rfl, rfl, rfl⟩⟩, fun s =>
    have down : s.hl - 1 = s.hl + 0xFFFF#16 := BitVec.sub_eq_add_neg s.hl 1
    ⟨down ▸ ldAStep_spec s rfl, down ▸ stAStep_spec s rfl, ldAStep_spec s rfl, stAStep_spec s rfl⟩⟩

/-- Settles O27: each form is one read into A from its address. -/
theorem loadsOfAccumulator : Obligations.LoadsOfAccumulator := by
  refine ⟨⟨⟨rfl, rfl, rfl⟩, ⟨rfl, rfl, rfl⟩, fun hi lo => ⟨rfl, opWord_append 0xFA hi lo, rfl⟩, ⟨rfl, rfl, rfl⟩,
    fun _ => ⟨rfl, rfl, rfl⟩⟩, ?bc, ?de, fun addr => ?absolute, ?pageC, fun o => ?pageImm⟩
  case bc => exact loadsA_of_exec_eq fun _ => rfl
  case de => exact loadsA_of_exec_eq fun _ => rfl
  case absolute => exact loadsA_of_exec_eq fun _ => rfl
  case pageC => exact loadsA_of_exec_eq fun s => congrArg (ldAFrom · s) (highPage_eq_page s.c)
  case pageImm => exact loadsA_of_exec_eq fun s => congrArg (ldAFrom · s) (highPage_eq_page o)

end Sys2Proof.Proofs
end

section
/-! The 16-bit loads and the stack (44_load16_stack.md, R160 to R167): where they stand in the opcode map, and what a load of a pair, a
store of a word, a push and a pop leave in the state. -/

namespace Sys2Proof.Machine

open Sys2Proof.Claims

/-! ### Where they stand in the opcode map (R51, R54) -/

theorem ldPairImmRow (p : Pair) (hi lo : Byte) : Row (ldPairImm p (hi ++ lo)) [0x01 + 16 * pairCode p, lo, hi] 12 := by
  cases p <;> exact ⟨rfl, opWord_append _ hi lo, rfl⟩

theorem pushPairRow (p : StackPair) : Row (pushPair p) [0xC5 + 16 * stackPairCode p] 16 := by
  cases p <;> exact ⟨rfl, rfl, rfl⟩

theorem popPairRow (p : StackPair) : Row (popPair p) [0xC1 + 16 * stackPairCode p] 12 := by
  cases p <;> exact ⟨rfl, rfl, rfl⟩

/-! ### What they leave in the state -/

variable (s : State)

/-- A pair written: the six registers of the pairs and SP, and nothing else. -/
theorem State.setPair_eq (p : Pair) (v : Word) :
    let t := s.setPair p v
    t = { s with b := t.b, c := t.c, d := t.d, e := t.e, h := t.h, l := t.l, sp := t.sp } := by
  cases p <;> rfl

theorem storedWord_write16 (addr v : Word) : StoredWord s (s.write16 addr v) addr v :=
  fun x => State.busRead_write16 s addr v x

/-- A word stored: the memory, and two bus calls. -/
theorem State.write16_eq (addr v : Word) :
    s.write16 addr v = { s with mem := (s.write16 addr v).mem, bus := s.bus ++ wordWrites addr v } := by
  ext1
  case bus => exact List.append_assoc ..
  all_goals rfl

theorem storedWord_push16 (v : Word) : StoredWord s (s.push16 v) (s.sp - 2) v :=
  fun x => State.busRead_push16 s v x

/-- A word pushed: SP, the memory, and two bus calls (R160). -/
theorem State.push16_eq (v : Word) : s.push16 v =
    { s with sp := s.sp - 2, mem := (s.push16 v).mem, bus := s.bus ++ wordWrites (s.sp - 2) v } :=
  (s.setSp (s.sp - 2)).write16_eq (s.sp - 2) v

/-- A word popped: SP, and two bus calls (R161). -/
theorem State.pop16_eq : s.pop16 = (wordAt s s.sp, { s with sp := s.sp + 2, bus := s.bus ++ wordReads s s.sp }) := by
  refine Prod.ext rfl ?_
  ext1
  case bus => exact List.append_assoc ..
  all_goals rfl

/-- POP in one line: the word at SP goes to the pair, SP up by 2, two bus calls (R167). -/
theorem exec_popPair_eq (p : StackPair) : exec (popPair p) s =
    .next ({ s with sp := s.sp + 2, bus := s.bus ++ wordReads s s.sp }.setStackPair p (wordAt s s.sp)) := by
  rw [exec_popPair, State.pop16_eq]

/-! A pair written with two bytes: the high one to its first register, the low one to its second (R14), to F without its low
nibble (R17). -/

theorem State.setBc_append (hi lo : Byte) : s.setBc (hi ++ lo) = { s with b := hi, c := lo } :=
  congrArg₂ (fun x y => { s with b := x, c := y }) (highByte_joinBytes hi lo) (lowByte_joinBytes hi lo)

theorem State.setDe_append (hi lo : Byte) : s.setDe (hi ++ lo) = { s with d := hi, e := lo } :=
  congrArg₂ (fun x y => { s with d := x, e := y }) (highByte_joinBytes hi lo) (lowByte_joinBytes hi lo)

theorem State.setHl_append (hi lo : Byte) : s.setHl (hi ++ lo) = { s with h := hi, l := lo } :=
  congrArg₂ (fun x y => { s with h := x, l := y }) (highByte_joinBytes hi lo) (lowByte_joinBytes hi lo)

theorem State.setAf_append (hi lo : Byte) : s.setAf (hi ++ lo) = { s with a := hi, f := lo &&& 0xF0#8 } :=
  congrArg₂ (fun x y => { s with a := x, f := y &&& 0xF0#8 }) (highByte_joinBytes hi lo) (lowByte_joinBytes hi lo)

end Sys2Proof.Machine

namespace Sys2Proof.Proofs

open Sys2Proof.Machine Sys2Proof.Claims

/-- Settles O30: a load of a pair writes that pair, `LD (a16),SP` is one store of a word, and `LD SP,HL` writes SP. -/
theorem wideLoads : Obligations.WideLoads := by
  refine ⟨⟨ldPairImmRow, fun hi lo => ⟨rfl, opWord_append 0x08 hi lo, rfl⟩, ⟨rfl, rfl, rfl⟩⟩,
    fun s => ⟨fun p n => ?imm, fun addr => ?store, ?spHl⟩⟩
  case imm => exact ⟨_, exec_ldPairImm s p n, fun q => State.pair_setPair s p q n, s.setPair_eq p n⟩
  case store => exact ⟨s.write16 addr s.sp, rfl, storedWord_write16 s addr s.sp, s.write16_eq addr s.sp⟩
  case spHl => rfl

/-- Settles O31: PUSH is one push of the pair as it is read whole, of AF with the low nibble of F 0. -/
theorem pushStoresPair : Obligations.PushStoresPair := by
  refine ⟨pushPairRow, fun p s => ⟨_, exec_pushPair s p, ?_⟩⟩
  have pushed (v : Word) := And.intro (storedWord_push16 s v) (s.push16_eq v)
  cases p with
  | bc => exact pushed s.bc
  | de => exact pushed s.de
  | hl => exact pushed s.hl
  | af => exact pushed s.af

/-- Settles O32: the word at SP is popped, and its two bytes go to the halves of the pair. -/
theorem popLoadsPair : Obligations.PopLoadsPair := by
  refine ⟨popPairRow, fun s => ⟨?bc, ?de, ?hl, ?af⟩⟩
  case bc => exact (exec_popPair_eq s .bc).trans (congrArg _ (State.setBc_append _ _ _))
  case de => exact (exec_popPair_eq s .de).trans (congrArg _ (State.setDe_append _ _ _))
  case hl => exact (exec_popPair_eq s .hl).trans (congrArg _ (State.setHl_append _ _ _))
  case af => exact (exec_popPair_eq s .af).trans (congrArg _ (State.setAf_append _ _ _))

end Sys2Proof.Proofs
end

section
/-! Jumps, calls and returns (45_control.md, R168 to R176, R178): where they stand in the opcode map, and what a jump, a call and a
return leave in the state. -/

namespace Sys2Proof.Machine

open Sys2Proof.Claims

/-! ### Where they stand in the opcode map (R52, R54) -/

theorem jpCondRow (cc : Cond) (hi lo : Byte) : Row (jpCond cc (hi ++ lo)) [0xC2 + 8 * condCode cc, lo, hi] 12 := by
  cases cc <;> exact ⟨rfl, opWord_append _ hi lo, rfl⟩

theorem jrCondRow (cc : Cond) (e : Byte) : Row (jrCond cc e) [0x20 + 8 * condCode cc, e] 8 := by
  cases cc <;> exact ⟨rfl, rfl, rfl⟩

theorem callCondRow (cc : Cond) (hi lo : Byte) : Row (callCond cc (hi ++ lo)) [0xC4 + 8 * condCode cc, lo, hi] 12 := by
  cases cc <;> exact ⟨rfl, opWord_append _ hi lo, rfl⟩

theorem retCondRow (cc : Cond) : Row (retCond cc) [0xC0 + 8 * condCode cc] 8 := by
  cases cc <;> exact ⟨rfl, rfl, rfl⟩

/-- The target of an RST is the field of its opcode in place, so the opcode is 0xC7 plus the target's low byte (R178). -/
theorem rstRow (y : RstTarget) : Row (rstInstr y) [0xC7 + (rstAddress y).extractLsb' 0 8] 16 := by
  cases y <;> exact ⟨rfl, rfl, rfl⟩

/-! ### What they leave in the state -/

variable (s : State)

/-- The condition as the statements write it, on the bits of F (R16, R52). -/
theorem State.condition_eq_holds (cc : Cond) : s.condition cc = holds s cc := by
  cases cc <;> rfl

/-- A conditional jump in one line (R169, R172). -/
theorem jumpIf_eq (cc : Cond) (target : Word) : jumpIf cc target s =
    .next (if holds s cc then { s with pc := target, cycles := s.cycles + 4 } else s) := by
  rw [jumpIf, State.condition_eq_holds]
  rfl

theorem storedWord_call (target : Word) : StoredWord s (s.call target) (s.sp - 2) s.pc :=
  storedWord_push16 s s.pc

/-- A call: PC, SP, the memory, and two bus calls (R173, R178). -/
theorem State.call_eq (target : Word) : s.call target =
    { s with pc := target, sp := s.sp - 2, mem := (s.call target).mem, bus := s.bus ++ wordWrites (s.sp - 2) s.pc } :=
  congrArg (·.setPc target) (s.push16_eq s.pc)

/-- An instruction that is one call. -/
theorem call_spec {instr : Instr} {target : Word} (hexec : exec instr s = .next (s.call target)) :
    ∃ t, exec instr s = .next t ∧ StoredWord s t (s.sp - 2) s.pc ∧
      t = { s with pc := target, sp := s.sp - 2, mem := t.mem, bus := s.bus ++ wordWrites (s.sp - 2) s.pc } :=
  ⟨_, hexec, storedWord_call s target, s.call_eq target⟩

/-- A call with its extra cycles (R174). -/
theorem State.charge_call_eq (target : Word) (n : Nat) : (s.call target).charge n =
    { s with
      pc := target, sp := s.sp - 2, mem := ((s.call target).charge n).mem
      bus := s.bus ++ wordWrites (s.sp - 2) s.pc, cycles := s.cycles + n } :=
  congrArg (·.charge n) (s.call_eq target)

/-- A return: PC, SP, and two bus calls (R175). -/
theorem State.ret_eq : s.ret = { s with pc := wordAt s s.sp, sp := s.sp + 2, bus := s.bus ++ wordReads s s.sp } := by
  rw [State.ret, State.pop16_eq]
  rfl

/-- A conditional return in one line (R176). -/
theorem retIf_eq (cc : Cond) : retIf cc s = .next (if holds s cc then
    { s with pc := wordAt s s.sp, sp := s.sp + 2, bus := s.bus ++ wordReads s s.sp, cycles := s.cycles + 12 } else s) := by
  rw [retIf, State.condition_eq_holds, State.ret_eq]
  rfl

end Sys2Proof.Machine

namespace Sys2Proof.Proofs

open Sys2Proof.Machine Sys2Proof.Claims

/-- Settles O36: CALL and RST are one call, and `CALL cc` is one exactly when its condition holds. -/
theorem callsPushPc : Obligations.CallsPushPc := by
  refine ⟨⟨fun hi lo => ⟨rfl, opWord_append 0xCD hi lo, rfl⟩, callCondRow, rstRow⟩,
    fun s => ⟨fun addr => ?call, fun cc addr => ?callCond, fun y => ?rst⟩⟩
  case call => exact call_spec s rfl
  case callCond =>
    refine ⟨_, exec_callCond s cc addr, ?_⟩
    rw [State.condition_eq_holds]
    cases holds s cc with
    | true => exact ⟨storedWord_call s addr, s.charge_call_eq addr 12⟩
    | false => rfl
  case rst => exact call_spec s (exec_rst s y)

/-- Settles O35: the target of JR is PC and the operand's signed value, and a conditional jump is one exactly when its condition
holds. -/
theorem jumpsSetPc : Obligations.JumpsSetPc := by
  refine ⟨⟨fun hi lo => ⟨rfl, opWord_append 0xC3 hi lo, rfl⟩, ⟨rfl, rfl, rfl⟩, fun _ => ⟨rfl, rfl, rfl⟩,
    fun cc => ⟨jpCondRow cc, jrCondRow cc⟩⟩,
    fun s => ⟨fun addr => ?jp, ?jpHl, fun e => ?jr, fun cc addr => ?jpCond, fun cc e => ?jrCond⟩⟩
  case jp => rfl
  case jpHl => rfl
  case jr => rfl
  case jpCond => exact (exec_jpCond s cc addr).trans (jumpIf_eq s cc addr)
  case jrCond => exact (exec_jrCond s cc e).trans (jumpIf_eq s cc (s.relativeTarget e))

/-- Settles O37: RET is one pop to PC, and `RET cc` is one exactly when its condition holds. -/
theorem returnsPopPc : Obligations.ReturnsPopPc :=
  ⟨⟨⟨rfl, rfl, rfl⟩, retCondRow⟩, fun s =>
    ⟨congrArg _ s.ret_eq, fun cc => (exec_retCond s cc).trans (retIf_eq s cc)⟩⟩

end Sys2Proof.Proofs
end

section
/-! What can fail (60_exceptions.md, R186 to R189): the eleven illegal opcodes, and no other instruction. -/

namespace Sys2Proof.Machine

variable (s : State)

/-- Each quarter of the secondary map is one shared operation, and none of the four can fail (R57, R185). -/
theorem executeCb_goes_on (k : Byte) : ∃ t, executeCb k s = .next t := by
  unfold executeCb
  dsimp only
  split <;> exact ⟨_, rfl⟩

/-- Every instruction is an illegal one or answers a next state (R189). -/
theorem illegal_or_exec_goes_on (i : Instr) : (∃ x, i = illegalInstr x) ∨ ∃ t, exec i s = .next t := by
  induction i using Instr.byRule
  case illegalInstr x => exact .inl ⟨x, rfl⟩
  all_goals right
  case prefixCb k => exact executeCb_goes_on s k
  case ldRegReg dst src => exact ⟨_, exec_ldRegReg s dst src⟩
  case ldRegImm dst n => exact ⟨_, exec_ldRegImm s dst n⟩
  case ldRegAtHl dst => exact ⟨_, exec_ldRegAtHl s dst⟩
  case ldAtHlReg src => exact ⟨_, exec_ldAtHlReg s src⟩
  case aluReg op r => exact ⟨_, exec_aluReg s op r⟩
  case aluAtHl op => exact ⟨_, exec_aluAtHl s op⟩
  case aluImm op n => exact ⟨_, exec_aluImm s op n⟩
  case incReg r => exact ⟨_, exec_incReg s r⟩
  case decReg r => exact ⟨_, exec_decReg s r⟩
  case addHlPair p => exact ⟨_, exec_addHlPair s p⟩
  case incPair p => exact ⟨_, exec_incPair s p⟩
  case decPair p => exact ⟨_, exec_decPair s p⟩
  case ldPairImm p n => exact ⟨_, exec_ldPairImm s p n⟩
  case pushPair p => exact ⟨_, exec_pushPair s p⟩
  case popPair p => exact ⟨_, exec_popPair s p⟩
  case shiftRegInstr op r => exact ⟨_, exec_shiftReg s op r⟩
  case shiftAtHlInstr op => exact ⟨_, exec_shiftAtHl s op⟩
  case bitRegInstr k r => exact ⟨_, exec_bitReg s k r⟩
  case bitAtHlInstr k => exact ⟨_, exec_bitAtHl s k⟩
  case resRegInstr k r => exact ⟨_, exec_resReg s k r⟩
  case resAtHlInstr k => exact ⟨_, exec_resAtHl s k⟩
  case setRegInstr k r => exact ⟨_, exec_setReg s k r⟩
  case setAtHlInstr k => exact ⟨_, exec_setAtHl s k⟩
  case jrCond cc e => exact ⟨_, exec_jrCond s cc e⟩
  case jpCond cc a => exact ⟨_, exec_jpCond s cc a⟩
  case callCond cc a => exact ⟨_, exec_callCond s cc a⟩
  case retCond cc => exact ⟨_, exec_retCond s cc⟩
  case rstInstr y => exact ⟨_, exec_rst s y⟩
  -- An instruction that stands alone is one update of the state.
  all_goals exact ⟨_, rfl⟩

end Sys2Proof.Machine

namespace Sys2Proof.Proofs

open Sys2Proof.Machine

/-- Settles O42: every instruction is an illegal one or goes on, and this one is not illegal. -/
theorem onlyIllegalOpcodesFail : Obligations.OnlyIllegalOpcodesFail := by
  intro i s hlegal
  obtain ⟨x, hillegal⟩ | hnext := illegal_or_exec_goes_on s i
  · exact absurd hillegal (hlegal x)
  · exact hnext

end Sys2Proof.Proofs
end

section
/-! The decoder and the encoder (30_encoding.md, R46 to R59). -/

namespace Sys2Proof

/-! ### The bytes of an opcode's instruction (R46, R54, R59) -/

/-- The secondary map read backwards (R57). -/
theorem encode_decodeSecondary (k : Byte) : WellFormed (decodeSecondary k) ∧ encode (decodeSecondary k) = cbPair k := by
  induction k using byte_cases with
  | h n hn =>
    revert n
    set_option maxRecDepth 8000 in decide

/-- The bytes of an instruction by its opcode and the two bytes after it, of which it has as many as its length says. -/
def bytesOf (op x y : Byte) : List Byte :=
  if instrLength op = 1 then opOnly op
  else if instrLength op = 2 then opByte op x
  else opWord op (joinBytes y x)

/-- The base map read backwards (R55): each of its entries but 0xCB is an instruction of its own with that opcode. -/
theorem encode_decodeBytes_of_ne_0xCB {op : Byte} (h : op ≠ 0xCB) (x y : Byte) :
    WellFormed (decodeBytes op x y) ∧ encode (decodeBytes op x y) = bytesOf op x y := by
  induction op using byte_cases with
  | h n hn =>
    obtain below | equal | above : n < 0xCB ∨ n = 0xCB ∨ 0xCB < n := by omega
    · interval_cases n <;> exact ⟨rfl, rfl⟩
    · exact absurd (equal ▸ rfl) h
    · interval_cases n <;> exact ⟨rfl, rfl⟩

/-- The instruction of an opcode and the two bytes after it is well-formed and has the opcode and as many of those bytes as its length
says: every byte value is exactly one instruction (R55, R57, R58). -/
theorem encode_decodeBytes (op x y : Byte) : WellFormed (decodeBytes op x y) ∧ encode (decodeBytes op x y) = bytesOf op x y := by
  by_cases h : op = 0xCB
  · subst h
    exact encode_decodeSecondary x
  · exact encode_decodeBytes_of_ne_0xCB h x y

/-- The first byte of an instruction is the opcode it was decoded from. -/
theorem head?_encode_decodeBytes (op x y : Byte) : (encode (decodeBytes op x y)).head? = some op := by
  rw [(encode_decodeBytes op x y).2, bytesOf]
  split_ifs <;> rfl

/-- What the decoder read: the bytes of an opcode's instruction, which it reads in the same way whatever follows them. -/
theorem decode_cases {bytes rest : List Byte} {i : Instr} (h : decode bytes = .ok (i, rest)) :
    ∃ op x y, i = decodeBytes op x y ∧ bytes = bytesOf op x y ++ rest ∧
      ∀ more, decode (bytesOf op x y ++ more) = .ok (i, more) := by
  obtain ⟨op, tail, rfl, hlen⟩ := decode_length h
  obtain one | two | three := instrLength_cases op
  · obtain ⟨rfl, rfl⟩ : decodeBytes op 0 0 = i ∧ tail = rest := by simpa [decode, one] using h
    refine ⟨op, 0, 0, rfl, ?_, fun more => ?_⟩ <;> rw [bytesOf, if_pos one]
    · rfl
    · exact decode_opOnly more one
  · obtain ⟨x, tail, rfl⟩ : ∃ x t, tail = x :: t := List.exists_cons_of_length_pos (by simp at hlen; omega)
    obtain ⟨rfl, rfl⟩ : decodeBytes op x 0 = i ∧ tail = rest := by simpa [decode, two] using h
    refine ⟨op, x, 0, rfl, ?_, fun more => ?_⟩ <;> rw [bytesOf, if_neg (by omega), if_pos two]
    · rfl
    · exact decode_opByte x more two
  · obtain ⟨x, tail, rfl⟩ : ∃ x t, tail = x :: t := List.exists_cons_of_length_pos (by simp at hlen; omega)
    obtain ⟨y, tail, rfl⟩ : ∃ y t, tail = y :: t := List.exists_cons_of_length_pos (by simp at hlen; omega)
    obtain ⟨rfl, rfl⟩ : decodeBytes op x y = i ∧ tail = rest := by simpa [decode, three] using h
    refine ⟨op, x, y, rfl, ?_, fun more => ?_⟩ <;> rw [bytesOf, if_neg (by omega), if_neg (by omega)]
    · simp [opWord]
    · simpa using decode_opWord (joinBytes y x) more three

/-- The decoder reads the instruction of an opcode in the same way whatever follows its bytes. -/
theorem decode_append {bytes : List Byte} {i : Instr} (h : decode bytes = .ok (i, [])) (more : List Byte) :
    decode (bytes ++ more) = .ok (i, more) := by
  obtain ⟨op, x, y, -, rfl, reads⟩ := decode_cases h
  rw [List.append_nil]
  exact reads more

end Sys2Proof

namespace Sys2Proof.Proofs

open Sys2Proof.Machine Sys2Proof.Claims

/-- Settles O3: what the decoder read is the bytes of an opcode's instruction, and that instruction encodes to them. -/
theorem encodeOfDecode : Obligations.EncodeOfDecode := by
  intro bytes rest i h
  obtain ⟨op, x, y, rfl, rfl, -⟩ := decode_cases h
  obtain ⟨wellFormed, encoded⟩ := encode_decodeBytes op x y
  exact ⟨wellFormed, congrArg (· ++ rest) encoded⟩

end Sys2Proof.Proofs
end

section
/-! The illegal opcodes and PREFIX CB (30_encoding.md, R56 to R58; 46_cpu_control.md, R185, R186). -/

namespace Sys2Proof.Machine

open Sys2Proof.Claims

/-! ### The eleven illegal opcodes (R56, R186) -/

theorem decodeBytes_illegalByte (k : IllegalOp) (x y : Byte) : decodeBytes (illegalByte k) x y = illegalInstr k := by
  cases k <;> rfl

theorem encode_illegalInstr (k : IllegalOp) : encode (illegalInstr k) = opOnly (illegalByte k) := by
  cases k <;> rfl

/-- The illegal opcodes are the bytes that name an illegal instruction. -/
theorem mem_illegalOpcodes_iff {op : Byte} : op ∈ illegalOpcodes ↔ ∃ k, illegalByte k = op := by
  constructor
  · intro h
    simp only [illegalOpcodes, List.mem_cons, List.not_mem_nil, or_false] at h
    rcases h with rfl | rfl | rfl | rfl | rfl | rfl | rfl | rfl | rfl | rfl | rfl
    exacts [⟨.xD3, rfl⟩, ⟨.xDB, rfl⟩, ⟨.xDD, rfl⟩, ⟨.xE3, rfl⟩, ⟨.xE4, rfl⟩, ⟨.xEB, rfl⟩, ⟨.xEC, rfl⟩, ⟨.xED, rfl⟩, ⟨.xF4, rfl⟩,
      ⟨.xFC, rfl⟩, ⟨.xFD, rfl⟩]
  · rintro ⟨k, rfl⟩
    cases k <;> decide

/-- An instruction is illegal exactly when its opcode is, since the encoder gives the opcode back. -/
theorem decodeBytes_illegal_iff (op x y : Byte) : (∃ k, decodeBytes op x y = illegalInstr k) ↔ op ∈ illegalOpcodes := by
  rw [mem_illegalOpcodes_iff]
  constructor
  · rintro ⟨k, h⟩
    have head := head?_encode_decodeBytes op x y
    rw [h, encode_illegalInstr] at head
    exact ⟨k, Option.some.inj head⟩
  · rintro ⟨k, rfl⟩
    exact ⟨k, decodeBytes_illegalByte k x y⟩

/-! ### PREFIX CB (R57, R185) -/

/-- The CB lookup by the fields of the secondary opcode is the CB map row by row. -/
theorem exec_decodeSecondary (k : Byte) (s : State) : exec (decodeSecondary k) s = executeCb k s := by
  induction k using byte_cases with
  | h n hn => interval_cases n <;> rfl

theorem decodeSecondaryRow (k : Byte) : Row (decodeSecondary k) [0xCB, k] (4 + tableSecondary .sm83 k) :=
  ⟨decode_cbPair k [], (encode_decodeSecondary k).2, rfl⟩

end Sys2Proof.Machine

namespace Sys2Proof.Proofs

open Sys2Proof.Machine Sys2Proof.Claims

/-- Settles O4: an illegal instruction encodes to its opcode, so no other opcode decodes to it. -/
theorem elevenOpcodesAreIllegal : Obligations.ElevenOpcodesAreIllegal :=
  ⟨decodeBytes_illegal_iff, decodeBytes_illegalByte, fun k s => ⟨_, _, exec_illegal s k⟩⟩

/-- Settles O5: an illegal instruction raises the fault and writes nothing else. -/
theorem illegalOpcodesChangeOnlyFault : Obligations.IllegalOpcodesChangeOnlyFault := fun k s => exec_illegal s k

/-- Settles O1: each of the words stands in the maps. -/
theorem decodesKnownWords : Obligations.DecodesKnownWords :=
  ⟨rfl, rfl, rfl, rfl, rfl, rfl, rfl, rfl, rfl⟩

/-- Settles O41: PREFIX CB executes the secondary opcode by its fields, which is the instruction of the CB map. -/
theorem prefixRunsSecondaryOpcode : Obligations.PrefixRunsSecondaryOpcode := fun k =>
  ⟨decodeSecondaryRow k, fun s => by
    obtain ⟨t, executed⟩ := executeCb_goes_on s k
    exact ⟨t, executed, (exec_decodeSecondary k s).trans executed⟩⟩

end Sys2Proof.Proofs
end

section
/-! AND, XOR and OR, INC and DEC, CPL, SCF and CCF, and DAA on BCD bytes (40_alu8.md, R67 to R69, R82 to R90, R94 to R101). -/

namespace Sys2Proof.Machine

open Sys2Proof.Claims

/-! ### Where INC and DEC stand in the opcode map (R50, R55) -/

theorem incRegRow (r : R8) : Row (incReg r) [0x04 + 8 * r8Code r] 4 := by
  cases r <;> exact ⟨rfl, rfl, rfl⟩

theorem decRegRow (r : R8) : Row (decReg r) [0x05 + 8 * r8Code r] 4 := by
  cases r <;> exact ⟨rfl, rfl, rfl⟩

variable (s : State)

/-! ### The logic operations (R67) -/

/-- An accumulator operation whose result is `bit` of each two bits, and that clears N and C. -/
theorem logic_spec {op : AluOp} {src : AluSource} {r : Byte} {h : Bool} {bit : Bool → Bool → Bool}
    (out : aluOut op s.a (value s src) (s.flag .c) = { res := r, z := r == 0#8, n := false, h := h, c := false })
    (writes : aluWritesA op = true) (bits : ∀ i, r.getLsbD i = bit (s.a.getLsbD i) ((value s src).getLsbD i)) :
    ∃ t, exec (aluInstr op src) s = .next t ∧ (∀ i, t.a.getLsbD i = bit (s.a.getLsbD i) ((value s src).getLsbD i)) ∧
      t.flag .z = decide (t.a = 0#8) ∧ t.flag .n = false ∧ t.flag .h = h ∧ t.flag .c = false ∧ OnlyAF s t (reads s src) := by
  obtain ⟨t, hexec, ha, hz, hn, hh, hc, hframe⟩ := exec_aluInstr_spec s out
  rw [if_pos writes] at ha
  exact ⟨t, hexec, ha ▸ bits, ha ▸ hz, hn, hh, hc, hframe⟩

/-! ### INC and DEC of an operand (R68, R69) -/

theorem and_0x0F_toNat (v : Byte) : (v &&& 0x0F#8).toNat = v.toNat % 16 := Nat.and_two_pow_sub_one_eq_mod v.toNat 4

theorem inc8H_eq (v : Byte) : inc8H v = decide (v.toNat % 16 = 15) := by
  rw [← and_0x0F_toNat]
  exact decide_eq_decide.mpr BitVec.toNat_inj.symm

theorem dec8H_eq (v : Byte) : dec8H v = decide (v.toNat % 16 = 0) := by
  rw [← and_0x0F_toNat]
  exact decide_eq_decide.mpr BitVec.toNat_inj.symm

theorem inc8_z_eq (v : Byte) : (inc8 v == 0#8) = decide (v = 0xFF#8) :=
  decide_eq_decide.mpr (by rw [inc8]; bv_omega)

theorem dec8_z_eq (v : Byte) : (dec8 v == 0#8) = decide (v = 0x01#8) :=
  decide_eq_decide.mpr (by rw [dec8]; bv_omega)

theorem incOperand_eq (o : Operand8) : incOperand o s =
    let v := (s.readOperand o).1
    .next (((s.readOperand o).2.writeOperand o (v + 1)).setZNH (decide (v = 0xFF#8)) false (decide (v.toNat % 16 = 15))) := by
  rw [incOperand, inc8_z_eq, inc8H_eq]
  rfl

theorem decOperand_eq (o : Operand8) : decOperand o s =
    let v := (s.readOperand o).1
    .next (((s.readOperand o).2.writeOperand o (v - 1)).setZNH (decide (v = 0x01#8)) true (decide (v.toNat % 16 = 0))) := by
  rw [decOperand, dec8_z_eq, dec8H_eq]
  rfl

/-- An instruction that writes one register, then Z, N and H. -/
theorem setZNH_setR8_spec {instr : Instr} {r : R8} {v : Byte} {z n h : Bool}
    (hexec : exec instr s = .next ((s.setR8 r v).setZNH z n h)) :
    ∃ t, exec instr s = .next t ∧ OnlyRegF s t r v ∧ t.flag .z = z ∧ t.flag .n = n ∧ t.flag .h = h ∧ t.flag .c = s.flag .c := by
  refine ⟨_, hexec, ⟨?frame, fun r' => ?regs, ?low⟩, State.flag_setZNH _ .z .., State.flag_setZNH _ .n ..,
    State.flag_setZNH _ .h .., ?c⟩
  case frame => cases r <;> rfl
  case regs => rw [State.r8_setZNH, State.r8_setR8]
  case low => rw [State.setZNH_low, State.setR8_f]
  case c => rw [State.flag_setZNH, State.setR8_flag]

/-- An instruction that reads the byte at HL, writes another there, then Z, N and H. -/
theorem setZNH_memWrite_spec {instr : Instr} {v : Byte} {z n h : Bool}
    (hexec : exec instr s = .next (((s.logRead s.hl).memWrite s.hl v).setZNH z n h)) :
    ∃ t, exec instr s = .next t ∧ StoredByte s t s.hl v ∧
      t.flag .z = z ∧ t.flag .n = n ∧ t.flag .h = h ∧ t.flag .c = s.flag .c ∧ t.f &&& 0x0F#8 = s.f &&& 0x0F#8 ∧
      t = { s with f := t.f, mem := t.mem, bus := s.bus ++ [.read s.hl (s.busRead s.hl), .write s.hl v] } :=
  ⟨_, hexec, storedByte_memWrite_logRead s s.hl v, State.flag_setZNH _ .z .., State.flag_setZNH _ .n ..,
    State.flag_setZNH _ .h .., State.flag_setZNH _ .c .., State.setZNH_low _ ..,
    congrArg (·.setZNH z n h) (s.memWrite_logRead_eq s.hl v)⟩

/-! ### CPL, SCF and CCF (R99 to R101) -/

/-- An instruction that writes N, H and C. -/
theorem setNHC_spec {instr : Instr} {n h c : Bool} (hexec : exec instr s = .next (s.setNHC n h c)) :
    ∃ t, exec instr s = .next t ∧ t.flag .n = n ∧ t.flag .h = h ∧ t.flag .c = c ∧ t.flag .z = s.flag .z ∧ OnlyF s t :=
  ⟨_, hexec, State.flag_setNHC s .n .., State.flag_setNHC s .h .., State.flag_setNHC s .c .., State.flag_setNHC s .z ..,
    rfl, s.setNHC_low ..⟩

theorem execCpl_spec : ∃ t, exec .cpl s = .next t ∧ t.a = ~~~ s.a ∧ t.flag .n = true ∧ t.flag .h = true ∧
    t.flag .z = s.flag .z ∧ t.flag .c = s.flag .c ∧ OnlyAF s t [] := by
  refine ⟨_, rfl, rfl, State.flag_setNH _ .n .., State.flag_setNH _ .h .., State.flag_setNH _ .z .., State.flag_setNH _ .c ..,
    ?frame, State.setNH_low _ ..⟩
  rw [List.append_nil]
  rfl

/-! ### DAA on BCD bytes (R98) -/

/-- A BCD byte holds the tens in its high digit and the ones in its low one. -/
theorem bcd_toNat {n : Nat} (h : n < 100) : (bcd n).toNat = n / 10 * 16 + n % 10 := by
  rw [bcd, BitVec.toNat_ofNat]
  omega

theorem bcd_z_eq {n : Nat} (h : n < 100) : (bcd n == 0#8) = decide (n = 0) := by
  refine decide_eq_decide.mpr ?_
  rw [← BitVec.toNat_inj, bcd_toNat h, BitVec.toNat_ofNat]
  omega

/-- DAA corrects the binary sum of two BCD bytes to the BCD sum. -/
theorem daa_add8_bcd {x y : Nat} (hx : x < 100) (hy : y < 100) :
    let r := add8 (bcd x) (bcd y) false
    daaResult r.res false r.h r.c = bcd ((x + y) % 100) ∧ daaCarry r.res false r.c = decide (x + y ≥ 100) := by
  intro r
  have res : r.res.toNat = (x / 10 * 16 + x % 10 + (y / 10 * 16 + y % 10)) % 256 := by
    rw [add8_res_toNat, bcd_toNat hx, bcd_toNat hy, Bool.toNat_false, Nat.add_zero]
  have h : r.h = decide (x % 10 + y % 10 > 15) := by
    simp only [r, add8, bcd_toNat hx, bcd_toNat hy, Bool.toNat_false]
    exact decide_eq_decide.mpr (by omega)
  have c : r.c = decide (x / 10 * 16 + x % 10 + (y / 10 * 16 + y % 10) > 255) := by
    simp only [r, add8, bcd_toNat hx, bcd_toNat hy, Bool.toNat_false]
    exact decide_eq_decide.mpr (by omega)
  have carry : daaCarry r.res false r.c = decide (x + y ≥ 100) := by
    rw [daaCarry_eq, c, res, Bool.eq_iff_iff]
    simp only [Bool.not_false, Bool.true_and, Bool.or_eq_true, decide_eq_true_eq]
    obtain small | big := Nat.lt_or_ge (x / 10 * 16 + x % 10 + (y / 10 * 16 + y % 10)) 256
    · rw [Nat.mod_eq_of_lt small]
      omega
    · omega
  refine ⟨BitVec.eq_of_toNat_eq ?_, carry⟩
  have low : daaFixesLow r.res false r.h = decide (x % 10 + y % 10 > 9) := by
    rw [daaFixesLow, h, res, Bool.eq_iff_iff]
    simp only [Bool.not_false, Bool.true_and, Bool.or_eq_true, decide_eq_true_eq]
    omega
  rw [daaResult_toNat, carry, low, res, bcd_toNat (by omega)]
  simp only [decide_eq_true_eq, Bool.false_eq_true, if_false]
  split_ifs <;> omega

/-- DAA corrects the binary difference of two BCD bytes to the BCD difference. -/
theorem daa_sub8_bcd {x y : Nat} (hx : x < 100) (hy : y < 100) :
    let r := sub8 (bcd x) (bcd y) false
    daaResult r.res true r.h r.c = bcd ((x + 100 - y) % 100) ∧ daaCarry r.res true r.c = decide (x < y) := by
  intro r
  have res : r.res.toNat = (x / 10 * 16 + x % 10 + 512 - (y / 10 * 16 + y % 10)) % 256 := by
    rw [sub8_res_toNat, bcd_toNat hx, bcd_toNat hy, Bool.toNat_false, Nat.sub_zero]
  have h : r.h = decide (x % 10 < y % 10) := by
    simp only [r, sub8, bcd_toNat hx, bcd_toNat hy, Bool.toNat_false]
    exact decide_eq_decide.mpr (by omega)
  have c : r.c = decide (x < y) := by
    simp only [r, sub8, bcd_toNat hx, bcd_toNat hy, Bool.toNat_false]
    exact decide_eq_decide.mpr (by omega)
  have carry : daaCarry r.res true r.c = decide (x < y) := by
    rw [daaCarry_eq, c, Bool.not_true, Bool.false_and, Bool.or_false]
  refine ⟨BitVec.eq_of_toNat_eq ?_, carry⟩
  have low : daaFixesLow r.res true r.h = decide (x % 10 < y % 10) := by
    rw [daaFixesLow, h, Bool.not_true, Bool.false_and, Bool.or_false]
  rw [daaResult_toNat, carry, low, res, bcd_toNat (by omega)]
  simp only [decide_eq_true_eq, if_true]
  split_ifs <;> omega
/-- DAA after an accumulator operation with the result and flags `r`. -/
theorem daa_after_alu {op : AluOp} {src : AluSource} {r : AluOut} (writes : aluWritesA op = true)
    (out : aluOut op s.a (value s src) (s.flag .c) = r) :
    ∃ t u, exec (aluInstr op src) s = .next t ∧ exec .daa t = .next u ∧ u.a = daaResult r.res r.n r.h r.c ∧
      u.flag .c = daaCarry r.res r.n r.c ∧ u.flag .n = r.n ∧ u.flag .z = (daaResult r.res r.n r.h r.c == 0#8) := by
  obtain ⟨t, hexec, ha, -, hn, hh, hc, -⟩ := exec_aluInstr_spec s out
  rw [if_pos writes] at ha
  obtain ⟨u, hdaa, hua, huz, hun, -, huc, -⟩ := execDaa_spec t
  rw [ha, hn, hh, hc] at hua huz
  rw [ha, hn, hc] at huc
  exact ⟨t, u, hexec, hdaa, hua, huc, hun.trans hn, huz⟩

end Sys2Proof.Machine

namespace Sys2Proof.Proofs

open Sys2Proof.Machine Sys2Proof.Claims

/-- Settles O9: the result is bit by bit the operation's, and N, H and C are fixed by it. -/
theorem logicSetsAAndFlags : Obligations.LogicSetsAAndFlags :=
  ⟨aluRows .and, aluRows .xor, aluRows .or, fun src s =>
    ⟨logic_spec s (src := src) rfl rfl fun _ => BitVec.getLsbD_and, logic_spec s (src := src) rfl rfl fun _ => BitVec.getLsbD_xor,
      logic_spec s (src := src) rfl rfl fun _ => BitVec.getLsbD_or⟩⟩

/-- Settles O10: the register is written, then Z, N and H. -/
theorem incDecRegister : Obligations.IncDecRegister :=
  ⟨fun r => ⟨incRegRow r, decRegRow r⟩, fun r s =>
    ⟨setZNH_setR8_spec s ((exec_incReg s r).trans (incOperand_eq s (.reg r))),
      setZNH_setR8_spec s ((exec_decReg s r).trans (decOperand_eq s (.reg r)))⟩⟩

/-- Settles O11: the byte at HL is read, one higher or lower is written there, then Z, N and H. -/
theorem incDecAtHl : Obligations.IncDecAtHl :=
  ⟨⟨rfl, rfl, rfl⟩, ⟨rfl, rfl, rfl⟩, fun s =>
    ⟨setZNH_memWrite_spec s (incOperand_eq s .atHl), setZNH_memWrite_spec s (decOperand_eq s .atHl)⟩⟩

/-- Settles O13: the binary sum or difference of two BCD bytes is the decimal one once DAA has corrected it. -/
theorem daaMakesDecimalSums : Obligations.DaaMakesDecimalSums := by
  intro x y s hx hy ha
  constructor
  · obtain ⟨t, u, hexec, hdaa, hua, huc, -, huz⟩ := daa_after_alu s (op := .add) (src := .imm (bcd y)) rfl rfl
    obtain ⟨sum, carry⟩ := daa_add8_bcd hx hy
    rw [ha] at hua huc huz
    exact ⟨t, u, hexec, hdaa, hua.trans sum, huc.trans carry, huz.trans (sum ▸ bcd_z_eq (by omega))⟩
  · obtain ⟨t, u, hexec, hdaa, hua, huc, hun, huz⟩ := daa_after_alu s (op := .sub) (src := .imm (bcd y)) rfl rfl
    obtain ⟨difference, borrow⟩ := daa_sub8_bcd hx hy
    rw [ha] at hua huc huz
    have zero : decide ((x + 100 - y) % 100 = 0) = decide (x = y) := decide_eq_decide.mpr (by omega)
    exact ⟨t, u, hexec, hdaa, hua.trans difference, huc.trans borrow, hun,
      huz.trans ((difference ▸ bcd_z_eq (by omega)).trans zero)⟩

/-- Settles O14: CPL writes A, N and H; SCF and CCF write N, H and C. -/
theorem complementAndCarryInstructions : Obligations.ComplementAndCarryInstructions :=
  ⟨⟨rfl, rfl, rfl⟩, ⟨rfl, rfl, rfl⟩, ⟨rfl, rfl, rfl⟩, fun s => ⟨execCpl_spec s, setNHC_spec s rfl, setNHC_spec s rfl⟩⟩

end Sys2Proof.Proofs
end

section
/-! 16-bit arithmetic (41_alu16.md, R104 to R109, R165), the accumulator rotates and BIT (42_rotate_shift_bit.md, R110 to R113, R131,
R132). -/

namespace Sys2Proof.Machine

open Sys2Proof.Claims

/-! ### Where they stand in the maps (R49 to R51, R55, R57) -/

theorem addHlPairRow (p : Pair) : Row (addHlPair p) [0x09 + 16 * pairCode p] 8 := by
  cases p <;> exact ⟨rfl, rfl, rfl⟩

theorem incPairRow (p : Pair) : Row (incPair p) [0x03 + 16 * pairCode p] 8 := by
  cases p <;> exact ⟨rfl, rfl, rfl⟩

theorem decPairRow (p : Pair) : Row (decPair p) [0x0B + 16 * pairCode p] 8 := by
  cases p <;> exact ⟨rfl, rfl, rfl⟩

theorem bitRegRow (k : BitNumber) (r : R8) : Row (bitRegInstr k r) [0xCB, 0x40 + 8 * bitCode k + r8Code r] 8 := by
  cases k <;> cases r <;> exact ⟨rfl, rfl, rfl⟩

theorem bitAtHlRow (k : BitNumber) : Row (bitAtHlInstr k) [0xCB, 0x46 + 8 * bitCode k] 12 := by
  cases k <;> exact ⟨rfl, rfl, rfl⟩

variable (s : State)

/-! ### ADD HL,rr, INC rr and DEC rr (R105 to R107) -/

/-- The sum goes to HL, then N, H and C are written. -/
theorem addHl_spec (p : Pair) : ∃ t, exec (addHlPair p) s = .next t ∧
    t.hl.toNat = (s.hl.toNat + (s.pair p).toNat) % 65536 ∧ t.flag .z = s.flag .z ∧ t.flag .n = false ∧
    t.flag .h = add16H s.hl (s.pair p) ∧ t.flag .c = add16C s.hl (s.pair p) ∧ t.f &&& 0x0F#8 = s.f &&& 0x0F#8 ∧
    t = { s with h := t.h, l := t.l, f := t.f } := by
  refine ⟨_, exec_addHlPair s p, ?sum, State.flag_setNHC _ .z .., State.flag_setNHC _ .n .., State.flag_setNHC _ .h ..,
    State.flag_setNHC _ .c .., State.setNHC_low _ .., rfl⟩
  rw [State.hl_setNHC, State.hl_setHl, BitVec.toNat_add]

/-- An instruction that writes one pair. -/
theorem setPair_spec {instr : Instr} {p : Pair} {v : Word} (hexec : exec instr s = .next (s.setPair p v)) :
    ∃ t, exec instr s = .next t ∧ (∀ q, t.pair q = if q = p then v else s.pair q) ∧
      t = { s with b := t.b, c := t.c, d := t.d, e := t.e, h := t.h, l := t.l, sp := t.sp } :=
  ⟨_, hexec, fun q => s.pair_setPair p q v, s.setPair_eq p v⟩

/-! ### The addition of a signed byte to SP (R104, R109) -/

theorem signedAdd16_toNat (base : Word) (e : Byte) :
    ((signedAdd16 base e).toNat : Int) = (base.toNat + e.toInt) % 65536 := by
  have extended : ((sext16 e).toNat : Int) = e.toInt % 65536 := by
    rw [sext16, BitVec.signExtend, BitVec.toNat_ofInt]
    omega
  rw [signedAdd16, BitVec.toNat_add]
  omega

theorem State.signedAddFlags_spec (e : Byte) :
    let t := s.signedAddFlags e
    t.flag .z = false ∧ t.flag .n = false ∧ t.flag .h = signedAddH s.config.signedAddFlags s.sp e ∧
      t.flag .c = signedAddC s.config.signedAddFlags s.sp e ∧ t.f &&& 0x0F#8 = s.f &&& 0x0F#8 :=
  ⟨s.flag_setFlags .z .., s.flag_setFlags .n .., s.flag_setFlags .h .., s.flag_setFlags .c .., s.setFlags_low ..⟩

/-- `ADD SP,e8` and `LD HL,SP+e8`, by the H and C that the parameter SIGNED_ADD_FLAGS gives (R108, R165). -/
theorem signedAdd_spec (e : Byte) {h c : Bool} (hh : signedAddH s.config.signedAddFlags s.sp e = h)
    (hc : signedAddC s.config.signedAddFlags s.sp e = c) :
    (∃ t, exec (.addSpE8 e) s = .next t ∧ (t.sp.toNat : Int) = (s.sp.toNat + e.toInt) % 65536 ∧
      t.flag .z = false ∧ t.flag .n = false ∧ t.flag .h = h ∧ t.flag .c = c ∧ t.f &&& 0x0F#8 = s.f &&& 0x0F#8 ∧
      t = { s with sp := t.sp, f := t.f }) ∧
    (∃ t, exec (.ldHlSpE8 e) s = .next t ∧ (t.hl.toNat : Int) = (s.sp.toNat + e.toInt) % 65536 ∧
      t.flag .z = false ∧ t.flag .n = false ∧ t.flag .h = h ∧ t.flag .c = c ∧ t.f &&& 0x0F#8 = s.f &&& 0x0F#8 ∧
      t = { s with h := t.h, l := t.l, f := t.f }) := by
  subst hh hc
  obtain ⟨z, n, h, c, low⟩ := s.signedAddFlags_spec e
  refine ⟨⟨_, rfl, signedAdd16_toNat s.sp e, z, n, h, c, low, rfl⟩, ⟨_, rfl, ?_, z, n, h, c, low, rfl⟩⟩
  rw [State.hl_setHl]
  exact signedAdd16_toNat s.sp e

/-- A byte of 0 or more is its own magnitude. -/
theorem natAbs_toInt_of_nonneg {e : Byte} (h : e.toInt ≥ 0) : e.toInt.natAbs = e.toNat := by
  have lt := e.isLt
  rw [BitVec.toInt_eq_toNat_cond] at h ⊢
  split_ifs at h ⊢ <;> omega

theorem signedAddH_magnitude (base : Word) (e : Byte) : signedAddH .magnitude base e =
    if e.toInt ≥ 0 then decide (base.toNat % 256 % 16 + e.toInt.natAbs % 16 > 15)
    else decide (base.toNat % 256 % 16 < e.toInt.natAbs % 16) := by
  rw [Nat.mod_mod_of_dvd base.toNat (by decide : 16 ∣ 256), signedAddH]
  split
  case isTrue h => rw [natAbs_toInt_of_nonneg h]
  case isFalse => rfl

theorem signedAddC_magnitude (base : Word) (e : Byte) : signedAddC .magnitude base e =
    if e.toInt ≥ 0 then decide (base.toNat % 256 + e.toInt.natAbs > 255)
    else decide (base.toNat % 256 < e.toInt.natAbs) := by
  rw [signedAddC]
  split
  case isTrue h => rw [natAbs_toInt_of_nonneg h]
  case isFalse => rfl

/-- A byte below 0x80 is 0 or more, and there the two readings are the same carries (R104). -/
theorem signedAdd_readings_agree (base : Word) {e : Byte} (he : e.toNat < 128) :
    signedAddH .magnitude base e = signedAddH .hardware base e ∧ signedAddC .magnitude base e = signedAddC .hardware base e := by
  have nonneg : e.toInt ≥ 0 := by
    rw [BitVec.toInt_eq_toNat_of_lt (by omega)]
    omega
  exact ⟨if_pos nonneg, if_pos nonneg⟩

/-! ### The accumulator rotates (R110 to R113) -/

/-- An instruction whose meaning is an accumulator rotate: the table's result in A, the bit rotated out in C, Z, N and H 0. -/
theorem rotateA_spec {instr : Instr} {op : ShiftOp} (hexec : exec instr s = rotateA op s) :
    ∃ t, exec instr s = .next t ∧ t.a.toNat = shifted op s.a.toNat (one (s.flag .c)) ∧ t.flag .c = shiftedOut op s.a ∧
      t.flag .z = false ∧ t.flag .n = false ∧ t.flag .h = false ∧ OnlyAF s t [] := by
  refine ⟨_, hexec, shiftResult_toNat .., (State.flag_setFlags _ .c ..).trans (shiftCarry_eq_shiftedOut ..),
    State.flag_setFlags _ .z .., State.flag_setFlags _ .n .., State.flag_setFlags _ .h .., ?frame, State.setFlags_low _ ..⟩
  rw [List.append_nil]
  rfl

/-! ### BIT (R131, R132) -/

theorem bitReg_spec (k : BitNumber) (r : R8) : ∃ t, exec (bitRegInstr k r) s = .next t ∧
    (t.flag .z = !(s.r8 r).getLsbD (bitIndex k)) ∧ t.flag .n = false ∧ t.flag .h = true ∧ t.flag .c = s.flag .c ∧ OnlyF s t :=
  ⟨_, exec_bitReg s k r, State.flag_setZNH s .z .., State.flag_setZNH s .n .., State.flag_setZNH s .h ..,
    State.flag_setZNH s .c .., rfl, s.setZNH_low ..⟩

theorem bitAtHl_spec (k : BitNumber) : ∃ t, exec (bitAtHlInstr k) s = .next t ∧
    (t.flag .z = !(s.busRead s.hl).getLsbD (bitIndex k)) ∧ t.flag .n = false ∧ t.flag .h = true ∧ t.flag .c = s.flag .c ∧
    t.a = s.a ∧ OnlyAF s t [.read s.hl (s.busRead s.hl)] :=
  ⟨_, exec_bitAtHl s k, State.flag_setZNH _ .z .., State.flag_setZNH _ .n .., State.flag_setZNH _ .h ..,
    State.flag_setZNH _ .c .., rfl, rfl, State.setZNH_low _ ..⟩

end Sys2Proof.Machine

namespace Sys2Proof.Proofs

open Sys2Proof.Machine Sys2Proof.Claims

/-- Settles O15: the sum goes to HL with its carries in H and C, and INC and DEC write one pair. -/
theorem pairArithmetic : Obligations.PairArithmetic :=
  ⟨fun p => ⟨addHlPairRow p, incPairRow p, decPairRow p⟩, fun p s =>
    ⟨addHl_spec s p, setPair_spec s (exec_incPair s p), setPair_spec s (exec_decPair s p)⟩⟩

/-- Settles O16: under Hardware the flags are the carries of the unsigned sum of the low bytes. -/
theorem signedAddToSpHardware : Obligations.SignedAddToSpHardware := by
  refine ⟨fun e => ⟨⟨rfl, rfl, rfl⟩, ⟨rfl, rfl, rfl⟩⟩, fun e s hardware => ?_⟩
  exact signedAdd_spec s e (hardware ▸ rfl) (hardware ▸ rfl)

/-- Settles O17: under Magnitude the flags are the carries or borrows of the byte's magnitude. -/
theorem signedAddToSpMagnitude : Obligations.SignedAddToSpMagnitude := by
  intro e s magnitude
  exact signedAdd_spec s e (magnitude ▸ signedAddH_magnitude s.sp e) (magnitude ▸ signedAddC_magnitude s.sp e)

/-- Settles O18: below 0x80 the two readings are the same carries; for -1 and SP = 0xFFFE they are not. -/
theorem signedAddReadingsAgreeBelow128 : Obligations.SignedAddReadingsAgreeBelow128 := by
  refine ⟨fun e s he => ⟨_, _, rfl, rfl, ?_, rfl⟩, 0xFF#8, State.reset, by decide, _, _, rfl, rfl, by decide, rfl⟩
  obtain ⟨agreeH, agreeC⟩ := signedAdd_readings_agree s.sp he
  exact (congrArg₂ (fun h c => (s.setFlags false false h c).f) agreeH agreeC).symm

/-- Settles O19: the rotates are the shift table's on A, with Z cleared always. -/
theorem accumulatorRotatesClearZ : Obligations.AccumulatorRotatesClearZ :=
  ⟨⟨rfl, rfl, rfl⟩, ⟨rfl, rfl, rfl⟩, ⟨rfl, rfl, rfl⟩, ⟨rfl, rfl, rfl⟩, fun s =>
    ⟨rotateA_spec s (op := .rlc) rfl, rotateA_spec s (op := .rrc) rfl, rotateA_spec s (op := .rl) rfl,
      rotateA_spec s (op := .rr) rfl⟩⟩

/-- Settles O22: BIT reads its operand and writes Z, N and H. -/
theorem bitTestsOneBit : Obligations.BitTestsOneBit :=
  ⟨fun k => ⟨bitRegRow k, bitAtHlRow k⟩, fun k s => ⟨bitReg_spec s k, bitAtHl_spec s k⟩⟩

end Sys2Proof.Proofs
end

section
/-! The stack, RETI, NOP, STOP, DI, EI and HALT (44_load16_stack.md, R161; 45_control.md, R177; 46_cpu_control.md, R180 to R184), and
what reads of bytes, pairs and flags give after writes (10_state.md, R14, R16; 20_memory.md, R33, R34). -/

namespace Sys2Proof.Machine

open Sys2Proof.Claims

/-- A word of two bytes with the low nibble cleared (R17). -/
theorem joinBytes_and_FFF0 (v : Word) : joinBytes (highByte v) (lowByte v &&& 0xF0#8) = v &&& 0xFFF0#16 := by
  have cleared (hi lo : Byte) : joinBytes hi (lo &&& 0xF0#8) = joinBytes hi lo &&& 0xFFF0#16 := by
    have mask : 0xFFF0#16 = BitVec.allOnes 8 ++ 0xF0#8 := rfl
    rw [joinBytes, joinBytes, mask, BitVec.and_append, BitVec.and_allOnes]
  rw [cleared, joinBytes_highByte_lowByte]

variable (s : State)

/-! ### POP after PUSH (R161, R166, R167) -/

/-- What each pair holds after a push and a pop: the popped one the pushed word, F without its low nibble. -/
theorem stackPair_pop_push (p q r : StackPair) :
    ((s.push16 (s.stackPair p)).pop16.2.setStackPair q (s.push16 (s.stackPair p)).pop16.1).stackPair r =
      if r = q then (if q = .af then s.stackPair p &&& 0xFFF0#16 else s.stackPair p) else s.stackPair r := by
  obtain ⟨popped, -⟩ := s.pop16_push16 (s.stackPair p)
  have kept (v : Word) : (s.push16 v).pop16.2.stackPair r = s.stackPair r := by cases r <;> simp [State.stackPair]
  rw [State.stackPair_setStackPair, popped, joinBytes_and_FFF0, kept]

/-- RETI in one line (R177). -/
theorem State.returnFromInterrupt_eq_wordAt : s.returnFromInterrupt =
    { s with pc := wordAt s s.sp, sp := s.sp + 2, ime := true, eiPending := false, bus := s.bus ++ wordReads s s.sp } := by
  rw [State.returnFromInterrupt, State.pop16_eq]
  rfl

/-- HALT's reads of IF and then IE (R181). -/
theorem State.pollForHalt_eq : s.pollForHalt =
    { s with bus := s.bus ++ [.read 0xFF0F#16 (s.busRead 0xFF0F#16), .read 0xFFFF#16 (s.busRead 0xFFFF#16)] } := by
  ext1
  case bus => exact List.append_assoc ..
  all_goals rfl

/-- HALT fails to halt with IME=0, an enabled request among the five sources, and the parameter HALT_BUG (R181, R193). -/
theorem State.haltFails_iff : s.haltFails = true ↔
    s.ime = false ∧ s.busRead 0xFF0F#16 &&& s.busRead 0xFFFF#16 &&& 0x1F#8 ≠ 0#8 ∧ s.config.haltBug = true := by
  simp [State.haltFails, pendingBits, ifAddr, ieAddr, sourceMask, and_assoc]

/-! ### Pairs and halves, flags and F (R14, R16, R17) -/

theorem State.af_eq_append (h : s.lowNibbleClear) : s.af = s.a ++ s.f := by
  have kept : s.f &&& 0xF0#8 = s.f := by
    calc s.f &&& 0xF0#8
        _ = s.f &&& 0xF0#8 ||| s.f &&& 0x0F#8 := by rw [h, BitVec.or_zero]
        _ = s.f &&& (0xF0#8 ||| 0x0F#8) := BitVec.and_or_distrib_left.symm
        _ = s.f := BitVec.and_allOnes
  rw [State.af, kept, joinBytes]

/-- A written flag is one bit of F. -/
theorem State.setFlag_spec (k : Flag) (w : Bool) : (s.setFlag k w).flag k = w ∧
    (∀ i < 8, i ≠ k.bit → (s.setFlag k w).f.getLsbD i = s.f.getLsbD i) ∧ s.setFlag k w = { s with f := (s.setFlag k w).f } :=
  ⟨by rw [State.flag_setFlag, if_pos rfl], fun i _ hi => bitAt_putBit_other s.f k.bit i w hi, rfl⟩

end Sys2Proof.Machine

namespace Sys2Proof.Proofs

open Sys2Proof.Machine Sys2Proof.Claims

/-- Settles O33: the word pushed is the word popped, and only the pair named is written. -/
theorem popAfterPush : Obligations.PopAfterPush := by
  intro p q s
  refine ⟨_, _, exec_pushPair s p, exec_popPair _ q, ?sp, ?popped, fun r hr => ?other⟩
  case sp => rw [State.setStackPair_sp, (s.pop16_push16 _).2]
  case popped => rw [stackPair_pop_push, if_pos rfl]
  case other => rw [stackPair_pop_push, if_neg hr]

/-- Settles O34: a byte or a word written is read back, and a byte write touches no other address. -/
theorem readsReturnLastWrites : Obligations.ReadsReturnLastWrites := by
  refine ⟨fun addr x v s => s.busRead_memWrite addr x v, fun addr v s => ⟨s.read16_write16 addr v, ?low, ?high⟩⟩
  case low => rw [State.busRead_write16, if_neg (ne_add_one addr), if_pos rfl, lowByte]
  case high => rw [State.busRead_write16, if_pos rfl, highByte]

/-- Settles O38: RETI is one pop to PC, IME set and a delayed EI dropped. -/
theorem retiPopsPcAndSetsIme : Obligations.RetiPopsPcAndSetsIme :=
  ⟨⟨rfl, rfl, rfl⟩, fun s => congrArg _ s.returnFromInterrupt_eq_wordAt⟩

/-- Settles O39: each of the four is one update of the state. -/
theorem nopStopDiEi : Obligations.NopStopDiEi :=
  ⟨⟨⟨rfl, rfl, rfl⟩, fun _ => ⟨rfl, rfl, rfl⟩, ⟨rfl, rfl, rfl⟩, ⟨rfl, rfl, rfl⟩⟩, fun _ => ⟨rfl, fun _ => rfl, rfl, rfl⟩⟩

/-- Settles O40: HALT reads IF and IE, and halts unless its bug strikes. -/
theorem haltHaltsUnlessBug : Obligations.HaltHaltsUnlessBug := by
  refine ⟨⟨rfl, rfl, rfl⟩, fun s => ?_⟩
  have decides : exec .halt s = _ := congrArg Host.Outcome.next (if_congr s.haltFails_iff rfl rfl)
  rw [State.pollForHalt_eq] at decides
  exact decides

/-- Settles O56: pairs are their halves joined, flags are bits of F, and each write reads back in both views. -/
theorem pairsAliasHalvesFlagsAreIndependent : Obligations.PairsAliasHalvesFlagsAreIndependent := by
  intro v x s
  refine ⟨fun p => by rw [State.pair_setPair, if_pos rfl], ⟨rfl, rfl⟩, ⟨rfl, rfl⟩, ⟨rfl, rfl⟩, ⟨rfl, rfl⟩,
    ⟨rfl, rfl, rfl, s.af_eq_append⟩, ⟨rfl, rfl, rfl, rfl, rfl, rfl, rfl⟩, ⟨rfl, rfl, rfl, rfl⟩, s.setFlag_spec⟩

end Sys2Proof.Proofs
end

section
/-! The step (30_encoding.md section 4, R60 to R63; 60_exceptions.md, R188 to R200): the check's reads, the fetch, the fault of an illegal
opcode, the idle step and the dispatch. -/

namespace Sys2Proof.Machine

open Sys2Proof.Claims

variable (s : State)

/-! ### The fetch of three bytes, of which the decoder takes as many as the length says (R59, R61) -/

/-- The decoder on an opcode and the two bytes after it: a byte the instruction does not have is not looked at. -/
theorem decode_three (op x y : Byte) : decode [op, x, y] =
    .ok (decodeBytes op (if 1 < instrLength op then x else 0) (if 2 < instrLength op then y else 0),
      [x, y].drop (instrLength op - 1)) := by
  obtain one | two | three := instrLength_cases op
  · simp [decode, one]
  · simp [decode, two]
  · simp [decode, three]

/-- Only 0xCB looks at the byte after the opcode, and it has one (R222, R223). -/
theorem baseCycles_operandByte (t : CycleTable) (op : Byte) :
    baseCycles t op (s.operandByte op 0) = baseCycles t op (s.busRead (s.operandAddr 0)) := by
  unfold baseCycles
  split
  case isTrue is0xCB => rw [is0xCB]; rfl
  case isFalse => rfl

@[simp] theorem State.operandAddr_logRead (addr : Word) (k : Nat) : (s.logRead addr).operandAddr k = s.operandAddr k := rfl

/-- The reads of a fetch: the opcode, then the operand bytes the instruction has (R37, R61). -/
theorem State.afterFetch_bus : s.afterFetch.bus = s.bus ++
    [.read s.pc (s.busRead s.pc), .read (s.operandAddr 0) (s.busRead (s.operandAddr 0)),
      .read (s.operandAddr 1) (s.busRead (s.operandAddr 1))].take (instrLength (s.busRead s.pc)) := by
  unfold State.afterFetch State.logOperands
  obtain one | two | three := instrLength_cases (s.busRead s.pc)
  · simp [one]
  · simp [two]
  · simp [three]

/-- The instruction at PC is illegal only if its opcode is (R56). -/
theorem fetched_ne_illegal (legal : s.busRead s.pc ∉ illegalOpcodes) (x : IllegalOp) : s.fetched ≠ illegalInstr x :=
  fun h => legal ((decodeBytes_illegal_iff _ _ _).mp ⟨x, h⟩)

theorem fetchExecute_of_legal (m : Mode) (legal : s.busRead s.pc ∉ illegalOpcodes) :
    fetchExecute m s = exec s.fetched s.readyToExecute := by
  rw [fetchExecute, isIllegal, if_neg (by simpa using legal)]

/-- A fetch of an illegal opcode faults with the opcode and PC, in the mode the step began in, and reports no cycles (R188). -/
theorem fetchExecute_of_illegal (m : Mode) (illegal : s.busRead s.pc ∈ illegalOpcodes) :
    fetchExecute m s = { s.logRead s.pc with mode := m, cycles := 0 }.raiseInvalidOpcode (s.busRead s.pc) := by
  obtain ⟨k, hk⟩ := mem_illegalOpcodes_iff.mp illegal
  have fetched : s.fetched = illegalInstr k := by
    rw [State.fetched, ← hk]
    exact decodeBytes_illegalByte k _ _
  rw [fetchExecute, isIllegal, if_pos (by simpa using illegal), fetched, exec_illegal, hk]

/-- A fetch of the bytes of a legal instruction `i` executes it in the state R60 to R63 prepare. -/
theorem fetchExecute_of_decode (m : Mode) {i : Instr} {rest : List Byte}
    (decoded : decode [s.busRead s.pc, s.busRead (s.operandAddr 0), s.busRead (s.operandAddr 1)] = .ok (i, rest))
    (legal : ∀ x, i ≠ illegalInstr x) :
    rest.length < 3 ∧ fetchExecute m s = exec i { s with
      haltBug := false
      pc := s.pc + s.fetchSkip + BitVec.ofNat 16 (2 - rest.length)
      ime := s.ime || s.eiPending
      eiPending := false
      cycles := s.cycles + baseCycles s.config.cycles (s.busRead s.pc) (s.busRead (s.operandAddr 0))
      bus := s.bus ++ [.read s.pc (s.busRead s.pc), .read (s.operandAddr 0) (s.busRead (s.operandAddr 0)),
        .read (s.operandAddr 1) (s.busRead (s.operandAddr 1))].take (3 - rest.length) } := by
  have lengths := instrLength_cases (s.busRead s.pc)
  rw [decode_three] at decoded
  obtain ⟨fetched, dropped⟩ := Prod.mk.inj (Except.ok.inj decoded)
  change s.fetched = i at fetched
  have restLength : rest.length = 3 - instrLength (s.busRead s.pc) := by
    rw [← dropped, List.length_drop]
    change 2 - (instrLength (s.busRead s.pc) - 1) = _
    omega
  have legalOpcode : s.busRead s.pc ∉ illegalOpcodes := fun h => by
    obtain ⟨x, hx⟩ := (decodeBytes_illegal_iff _ _ _).mpr h
    exact legal x (fetched.symm.trans hx)
  refine ⟨by omega, ?_⟩
  have taken : 3 - rest.length = instrLength (s.busRead s.pc) := by omega
  have passed : 2 - rest.length = instrLength (s.busRead s.pc) - 1 := by omega
  rw [fetchExecute_of_legal s m legalOpcode, State.readyToExecute_eq, State.afterFetch_bus, baseCycles_operandByte, fetched, taken,
    passed]
  rfl

/-! ### The check, the wake and the state at the fetch (R60, R193, R199, R200) -/

/-- A fetch begins after the check's reads and the wake. -/
theorem State.atFetch_eq_checkReads : s.atFetch = { s with mode := .running, cycles := wakeCost s, bus := checkReads s } := by
  by_cases checks : s.polls = true
  · have checks' : s.ime = true ∨ s.mode ≠ .running := by simpa [State.polls] using checks
    rw [State.atFetch, if_pos checks, State.wake_eq, checkReads, if_pos checks', wakeCost]
    ext1
    case cycles => exact Nat.zero_add _
    all_goals rfl
  · have checks' : ¬ (s.ime = true ∨ s.mode ≠ .running) := by simpa [State.polls] using checks
    have running : s.mode = .running := by_contra fun h => checks' (.inr h)
    rw [State.atFetch, if_neg checks, checkReads, if_neg checks', wakeCost, if_pos running, ← running]
    rfl

theorem step_of_fetches {s : State} (h : Fetches s) : step s = fetchExecute s.mode s.atFetch := by
  obtain ⟨noFault, awake, none_pending⟩ := h
  obtain ⟨_, ⟨_, asleep, _⟩, _⟩ | ⟨_, ⟨_, ime, pending, _⟩, _⟩ | ⟨_, _, fetch⟩ := step_cases noFault
  · exact absurd awake (by simp [asleep])
  · exact absurd (none_pending ime) pending
  · exact fetch

/-- A step that comes to a fetch of the bytes of a legal instruction executes it (R60 to R63). -/
theorem step_of_decode {s : State} {i : Instr} {rest : List Byte} (fetches : Fetches s)
    (decoded : decode [s.busRead s.pc, s.busRead (s.operandAddr 0), s.busRead (s.operandAddr 1)] = .ok (i, rest))
    (legal : ∀ x, i ≠ illegalInstr x) :
    rest.length < 3 ∧ step s = exec i { s with
      mode := .running
      haltBug := false
      pc := s.pc + s.fetchSkip + BitVec.ofNat 16 (2 - rest.length)
      ime := s.ime || s.eiPending
      eiPending := false
      cycles := wakeCost s + baseCycles s.config.cycles (s.busRead s.pc) (s.busRead (s.operandAddr 0))
      bus := checkReads s ++ [.read s.pc (s.busRead s.pc), .read (s.operandAddr 0) (s.busRead (s.operandAddr 0)),
        .read (s.operandAddr 1) (s.busRead (s.operandAddr 1))].take (3 - rest.length) } := by
  rw [step_of_fetches fetches, State.atFetch_eq_checkReads]
  exact fetchExecute_of_decode _ s.mode decoded legal

/-- An interrupt is taken in the state of a fetch (R195). -/
theorem step_of_interrupt {s : State} (noFault : s.fault = none) (awake : s.awake = true) (ime : s.ime = true)
    (pending : s.pending ≠ 0#8) : step s = .next (s.atFetch.takeInterrupt (s.busRead ifAddr) s.pending) := by
  obtain ⟨_, ⟨_, asleep, _⟩, _⟩ | ⟨t, ⟨_, _, _, taken⟩, next⟩ | ⟨_, none_pending, _⟩ := step_cases noFault
  · exact absurd awake (by simp [asleep])
  · rw [next, taken, State.atFetch, State.polls, ime]
    rfl
  · exact absurd (none_pending ime) pending

theorem step_of_asleep {s : State} (noFault : s.fault = none) (asleep : s.awake = false) :
    step s = .next { s with
      cycles := 4
      bus := [.read 0xFF0F#16 (s.busRead 0xFF0F#16), .read 0xFFFF#16 (s.busRead 0xFFFF#16)] } := by
  obtain ⟨t, ⟨_, _, idle⟩, next⟩ | ⟨_, ⟨awake, _⟩, _⟩ | ⟨awake, _⟩ := step_cases noFault
  · rw [next, idle]
    rfl
  · exact absurd awake (by simp [asleep])
  · exact absurd awake (by simp [asleep])

theorem step_of_fault {s : State} {x : InvalidOpcode} (fault : s.fault = some x) :
    step s = .fault (.invalidOpcode x.opcode x.pc { s with cycles := 0, bus := [] }) := by
  have held : step s = .fault (.invalidOpcode x.opcode x.pc s.beginStep) := by rw [step, runStep, fault]
  exact held

/-! ### Which steps fault (R188 to R190) -/

/-- The core holds a fault, or comes to the fetch of an illegal opcode. -/
def ComesToFault (s : State) : Prop := s.fault ≠ none ∨ (Fetches s ∧ s.busRead s.pc ∈ illegalOpcodes)

theorem step_of_illegal {s : State} (fetches : Fetches s) (illegal : s.busRead s.pc ∈ illegalOpcodes) :
    step s = .fault (.invalidOpcode (s.busRead s.pc) s.pc { s with
      fault := some { opcode := s.busRead s.pc, pc := s.pc }
      cycles := 0
      bus := checkReads s ++ [.read s.pc (s.busRead s.pc)] }) := by
  rw [step_of_fetches fetches, State.atFetch_eq_checkReads]
  exact fetchExecute_of_illegal _ s.mode illegal

theorem step_of_comesToFault {s : State} (h : ComesToFault s) : ∃ x, step s = .fault x := by
  obtain held | ⟨fetches, illegal⟩ := h
  · obtain ⟨x, held⟩ := Option.ne_none_iff_exists'.mp held
    exact ⟨_, step_of_fault held⟩
  · exact ⟨_, step_of_illegal fetches illegal⟩

/-- Idling, a dispatch and a legal instruction go on, and count cycles (R7, R189). -/
theorem step_of_not_comesToFault {s : State} (h : ¬ ComesToFault s) : ∃ t, step s = .next t ∧ 0 < t.cycles := by
  obtain ⟨noFault, legal⟩ : s.fault = none ∧ (Fetches s → s.busRead s.pc ∉ illegalOpcodes) := by
    simpa [ComesToFault] using h
  obtain ⟨t, ⟨_, _, idle⟩, next⟩ | ⟨t, ⟨_, _, _, taken⟩, next⟩ | ⟨awake, none_pending, next⟩ := step_cases noFault
  · exact ⟨t, next, by rw [idle]; exact Nat.succ_pos 3⟩
  · exact ⟨t, next, by rw [taken]; exact takeInterrupt_cycles_pos ..⟩
  · have legal : s.atFetch.busRead s.atFetch.pc ∉ illegalOpcodes := by
      rw [State.atFetch_eq]
      exact legal ⟨noFault, awake, none_pending⟩
    obtain ⟨x, illegal⟩ | ⟨t, executes⟩ := illegal_or_exec_goes_on s.atFetch.readyToExecute s.atFetch.fetched
    · exact absurd illegal (fetched_ne_illegal _ legal x)
    · exact ⟨t, (next.trans (fetchExecute_of_legal _ _ legal)).trans executes,
        (readyToExecute_cycles_pos _ legal).trans_le (exec_cycles_le _ executes)⟩

/-! ### Interrupt sources (R191, R193, R196, R197) -/

theorem sourceBit_lt (k : Source) : sourceBit k < 5 := by cases k <;> decide

theorem serviceAddress_eq (k : Source) : serviceAddress k = BitVec.ofNat 16 (0x40 + 8 * sourceBit k) := by cases k <;> rfl

/-- The bits of the five sources pass the mask of R193. -/
theorem getLsbD_pendingBits (ifv iev : Byte) {i : Nat} (hi : i < 5) :
    (pendingBits ifv iev).getLsbD i = (ifv &&& iev).getLsbD i := by
  have masked : sourceMask.getLsbD i = true := by interval_cases i <;> rfl
  rw [pendingBits, BitVec.getLsbD_and, masked, Bool.and_true]

theorem ne_zero_of_getLsbD {v : Byte} {i : Nat} (h : v.getLsbD i = true) : v ≠ 0#8 := by
  rintro rfl
  simp at h

/-- The source taken is the one of the lowest bit set (R196). -/
theorem sourceBit_lowestSource {pending : Byte} {i : Nat} (hi : i < 5) (isSet : pending.getLsbD i = true)
    (lower : ∀ j < i, pending.getLsbD j = false) : sourceBit (lowestSource pending) = i := by
  have bits (j : Nat) (hj : j ≤ i) : bitAt pending j = decide (j = i) := by
    obtain hlt | rfl := Nat.lt_or_eq_of_le hj
    · rw [bitAt, lower j hlt, decide_eq_false (Nat.ne_of_lt hlt)]
    · rw [bitAt, isSet, decide_eq_true rfl]
  unfold lowestSource
  interval_cases i <;> simp [bits, sourceBit]

/-- Only the joypad's request leaves the default STOP (R200, D14). -/
theorem stopWakes_default (ifv iev : Byte) : stopWakes defaultConfig.stopWake ifv iev = ifv.getLsbD 4 := by
  have joypad (v : Byte) : (v &&& 0x10#8 == 0x10#8) = v.getLsbD 4 := by
    induction v using byte_cases with
    | h n hn =>
      revert n
      set_option maxRecDepth 8000 in decide
  simp [stopWakes, defaultConfig, joypad]

end Sys2Proof.Machine

namespace Sys2Proof.Proofs

open Sys2Proof.Machine Sys2Proof.Claims

/-- Settles O46: a held fault is returned before anything is read. -/
theorem faultIsAbsorbing : Obligations.FaultIsAbsorbing := fun _ _ fault => step_of_fault fault

/-- Settles O45: the fetch faults before it changes anything, and the mode is put back. -/
theorem stepFaultsOnIllegalOpcode : Obligations.StepFaultsOnIllegalOpcode :=
  fun _ fetches illegal => step_of_illegal fetches illegal

/-- Settles O43: without HALT's bug the operands stand after the opcode. -/
theorem stepRunsDecodedInstruction : Obligations.StepRunsDecodedInstruction := by
  intro s i rest fetches noBug decoded legal
  have skip : s.fetchSkip = 1#16 := by rw [State.fetchSkip, noBug]; rfl
  have operand0 : s.operandAddr 0 = s.pc + 1 := by rw [State.operandAddr, skip]; exact BitVec.add_zero _
  have operand1 : s.operandAddr 1 = s.pc + 2 := by rw [State.operandAddr, skip]; exact BitVec.add_assoc ..
  rw [← operand0, ← operand1] at decoded ⊢
  obtain ⟨short, executes⟩ := step_of_decode fetches decoded legal
  refine executes.trans (congrArg (exec i) ?_)
  ext1
  case pc =>
    have length : 3 - rest.length = 1 + (2 - rest.length) := by omega
    rw [skip, length, BitVec.ofNat_add, BitVec.add_assoc]
  case haltBug => exact noBug.symm
  all_goals rfl

/-- Settles O44: with HALT's bug pending the operands stand from the opcode on. -/
theorem haltBugRereadsOpcode : Obligations.HaltBugRereadsOpcode := by
  intro s i rest fetches bug decoded legal
  have skip : s.fetchSkip = 0#16 := by rw [State.fetchSkip, bug]; rfl
  have operand0 : s.operandAddr 0 = s.pc := by rw [State.operandAddr, skip, BitVec.add_zero]; exact BitVec.add_zero _
  have operand1 : s.operandAddr 1 = s.pc + 1 := by rw [State.operandAddr, skip, BitVec.add_zero]; rfl
  nth_rw 2 [← operand0] at decoded
  rw [← operand1] at decoded ⊢
  obtain ⟨short, executes⟩ := step_of_decode fetches decoded legal
  rw [operand0] at executes
  refine executes.trans (congrArg (exec i) ?_)
  ext1
  case pc =>
    have length : 3 - rest.length = 2 - rest.length + 1 := by omega
    rw [skip, length, BitVec.ofNat_add, BitVec.add_zero, ← BitVec.add_assoc]
    exact (BitVec.add_sub_cancel _ _).symm
  all_goals rfl

/-- Settles O47: a core that comes to no fault goes on and counts cycles. -/
theorem stepGoesOnOrFaults : Obligations.StepGoesOnOrFaults := by
  intro s
  by_cases h : ComesToFault s
  · obtain ⟨x, faults⟩ := step_of_comesToFault h
    exact ⟨.inr ⟨x, faults⟩, fun t next => (nomatch faults.symm.trans next), fun _ => h, fun _ => ⟨x, faults⟩⟩
  · obtain ⟨t, next, cycles⟩ := step_of_not_comesToFault h
    refine ⟨.inl ⟨t, next⟩, fun u next' => ?_, fun ⟨x, faults⟩ => (nomatch faults.symm.trans next), fun h' => absurd h' h⟩
    obtain rfl : t = u := Host.Outcome.next.inj (next.symm.trans next')
    exact cycles

/-- Settles O48: the lowest bit pending names the source, and the interrupt is taken in the state of a fetch. -/
theorem interruptIsTaken : Obligations.InterruptIsTaken := by
  intro s i noFault awake ime hi ifv pending isSet lower
  have isSet : s.pending.getLsbD i = true := (getLsbD_pendingBits _ _ hi).trans isSet
  have source : sourceBit (lowestSource s.pending) = i :=
    sourceBit_lowestSource hi isSet fun j hj => (getLsbD_pendingBits _ _ (hj.trans hi)).trans (lower j hj)
  have above : s.sp - 2 + 1 = s.sp - 1 := by bv_omega
  refine ⟨_, step_of_interrupt noFault awake ime (ne_zero_of_getLsbD isSet), fun x => ?bytes, ?frame⟩
  case bytes =>
    rw [State.busRead_takeInterrupt, State.atFetch_eq_checkReads, source, ← above]
    rfl
  case frame =>
    refine (State.takeInterrupt_eq ..).trans ?_
    rw [serviceAddress_eq, source, State.atFetch_eq_checkReads, checkReads, if_pos (.inl ime), ← above]
    rfl

/-- Settles O49: a core that is not awake idles. -/
theorem idleStepChangesNothing : Obligations.IdleStepChangesNothing := by
  rintro s noFault (⟨halted, nothing⟩ | ⟨stopped, unmet⟩)
  · refine step_of_asleep noFault ?_
    rw [State.awake, halted]
    exact bne_eq_false_iff_eq.mpr nothing
  · refine step_of_asleep noFault ?_
    rw [State.awake, stopped]
    exact unmet

/-- Settles O50: the default STOP_WAKE is the joypad's bit of IF. -/
theorem stopIsLeftByJoypadRequest : Obligations.StopIsLeftByJoypadRequest := by
  intro s stopped byDefault
  rw [State.awake, stopped, byDefault]
  exact stopWakes_default _ _

end Sys2Proof.Proofs
end

section
/-! What every step keeps (10_state.md, R17 to R24; 60_exceptions.md, R188, R190), EI's delay (R63, R215), a device's request (R45, R204)
and `reset()` (R26, R27, R211, R214). -/

namespace Sys2Proof.Machine

open Sys2Proof.Claims

variable (s : State)

/-! ### What an instruction that goes on does to the hidden state (R18 to R22) -/

/-- The next states of the instructions, by what becomes of IME, the mode, EI's delay and HALT's bug. -/
inductive ExecNext (s : State) : Instr → State → Prop where
  | ordinary {i : Instr} {t : State} (kept : Ordinary s t) : ExecNext s i t
  | di : ExecNext s .di (s.setIme false)
  | reti : ExecNext s .reti s.returnFromInterrupt
  | ei : ExecNext s .ei { s with eiPending := true }
  | haltBug (fails : s.haltFails = true) : ExecNext s .halt { s.pollForHalt with haltBug := true }
  | halt : ExecNext s .halt (s.pollForHalt.setMode .halted)
  | stop (n : Byte) : ExecNext s (.stop n) (s.setMode .stopped)

theorem exec_next {s : State} {i : Instr} {t : State} (h : exec i s = .next t) : ExecNext s i t := by
  obtain ordinary | rfl | rfl | rfl | rfl | ⟨n, rfl⟩ := exec_ordinary s i
  · exact .ordinary (ordinary t h)
  · cases h; exact .di
  · cases h; exact .reti
  · cases h; exact .ei
  · cases h
    split
    · exact .haltBug ‹_›
    · exact .halt
  · cases h; exact .stop n

/-- No instruction writes a parameter or the fault and goes on, takes the memory out of its canonical form, or sets a bit of the
low nibble of F. -/
theorem exec_keeps {s : State} {i : Instr} {t : State} (h : exec i s = .next t) :
    t.config = s.config ∧ t.fault = s.fault ∧ (s.mem.wf = true → t.mem.wf = true) ∧ (s.lowNibbleClear → t.lowNibbleClear) := by
  cases exec_next h with
  | ordinary kept => exact ⟨kept.config, kept.fault, kept.mem, kept.low⟩
  | di => exact ⟨rfl, rfl, id, id⟩
  | reti =>
    rw [State.returnFromInterrupt_eq]
    exact ⟨rfl, rfl, id, id⟩
  | ei => exact ⟨rfl, rfl, id, id⟩
  | haltBug => exact ⟨rfl, rfl, id, id⟩
  | halt => exact ⟨rfl, rfl, id, id⟩
  | stop => exact ⟨rfl, rfl, id, id⟩

/-- An instruction that executes in a running core with no EI due and no HALT's bug pending leaves the hidden bits in agreement. -/
theorem exec_hiddenAgree {s : State} {i : Instr} {t : State} (h : exec i s = .next t) (running : s.mode = .running)
    (noEi : s.eiPending = false) (noBug : s.haltBug = false) (noFault : s.fault = none) : t.HiddenAgree := by
  obtain ⟨-, sameFault, -, -⟩ := exec_keeps h
  have fault (x : InvalidOpcode) (hx : t.fault = some x) : x.opcode ∈ illegalOpcodes ∧ x.pc = t.pc :=
    nomatch hx.symm.trans (sameFault.trans noFault)
  cases exec_next h with
  | ordinary kept =>
    have noBug' := kept.haltBug.trans noBug
    have noEi' := kept.eiPending.trans noEi
    exact ⟨fun bug => (nomatch bug.symm.trans noBug'), fun _ => noEi', fault⟩
  | di => exact ⟨fun bug => (nomatch bug.symm.trans noBug), fun _ => rfl, fault⟩
  | reti =>
    rw [State.returnFromInterrupt_eq] at fault ⊢
    exact ⟨fun bug => (nomatch bug.symm.trans noBug), fun _ => rfl, fault⟩
  | ei => exact ⟨fun bug => (nomatch bug.symm.trans noBug), fun low => absurd running low, fault⟩
  | haltBug fails =>
    obtain ⟨ime, -, parameter⟩ := s.haltFails_iff.mp fails
    exact ⟨fun _ => ⟨ime, running, noEi, parameter⟩, fun _ => noEi, fault⟩
  | halt => exact ⟨fun bug => (nomatch bug.symm.trans noBug), fun _ => noEi, fault⟩
  | stop => exact ⟨fun bug => (nomatch bug.symm.trans noBug), fun _ => noEi, fault⟩

/-- Among the instructions only DI and RETI write IME (R18). -/
theorem exec_keeps_ime {s : State} {i : Instr} {t : State} (h : exec i s = .next t) (notDi : i ≠ .di) (notReti : i ≠ .reti) :
    t.ime = s.ime := by
  cases exec_next h with
  | ordinary kept => exact kept.ime
  | di => exact absurd rfl notDi
  | reti => exact absurd rfl notReti
  | ei => rfl
  | haltBug => rfl
  | halt => rfl
  | stop => rfl

/-! ### What a step that goes on does to the invariant (R60) -/

/-- The state in which a fetched instruction executes: the parameters, the fault, the memory and F are the step's own, and the core
runs with no EI due and no HALT's bug pending. -/
theorem readyToExecute_atFetch :
    let u := s.atFetch.readyToExecute
    u.config = s.config ∧ u.fault = s.fault ∧ u.mem = s.mem ∧ u.f = s.f ∧
      u.mode = .running ∧ u.eiPending = false ∧ u.haltBug = false := by
  rw [State.readyToExecute_eq, State.atFetch_eq]
  exact ⟨rfl, rfl, rfl, rfl, rfl, rfl, rfl⟩

theorem idle_inv {s t : State} (h : Idles s t) (noFault : s.fault = none) (inv : s.Inv) : t.Inv := by
  obtain ⟨-, -, rfl⟩ := h
  obtain ⟨mem, flags, hidden⟩ := inv
  exact ⟨mem, flags, hidden.haltBug, hidden.lowPower, fun x hx => (nomatch hx.symm.trans noFault)⟩

theorem takesInterrupt_keeps {s t : State} (h : TakesInterrupt s t) : t.config = s.config ∧ t.fault = s.fault ∧
    (s.mem.wf = true → t.mem.wf = true) ∧ t.f = s.f ∧ t.mode = .running ∧ t.eiPending = false ∧ t.haltBug = s.haltBug := by
  obtain ⟨-, -, -, rfl⟩ := h
  have wf := s.beginStep.polled.wake.takeInterrupt_wf (s.busRead ifAddr) s.pending
  rw [State.takeInterrupt_eq] at wf ⊢
  rw [State.wake_eq] at wf ⊢
  exact ⟨rfl, rfl, wf, rfl, rfl, rfl, rfl⟩

/-- An interrupt is taken with IME=1, so HALT's bug is not pending. -/
theorem takesInterrupt_inv {s t : State} (h : TakesInterrupt s t) (noFault : s.fault = none) (inv : s.Inv) : t.Inv := by
  obtain ⟨-, sameFault, mem, flags, running, noEi, sameBug⟩ := takesInterrupt_keeps h
  obtain ⟨-, ime, -⟩ := h
  have noBug : t.haltBug ≠ true := fun bug => by
    obtain ⟨imeOff, -⟩ := inv.hidden.haltBug (sameBug.symm.trans bug)
    exact nomatch ime.symm.trans imeOff
  refine ⟨mem inv.mem, ?_, fun bug => absurd bug noBug, fun _ => noEi,
    fun x hx => (nomatch hx.symm.trans (sameFault.trans noFault))⟩
  rw [State.lowNibbleClear, flags]
  exact inv.flags

/-! ### A step that runs an instruction of one byte (R60 to R63) -/

theorem awake_of_running {s : State} (running : s.mode = .running) : s.awake = true := by rw [State.awake, running]

/-- The state `u` in which a one-byte instruction executes in a step of `s`, but for the report of the step. -/
structure FetchedOneByte (s u : State) : Prop where
  pc : u.pc = s.pc + 1
  sp : u.sp = s.sp
  mem : u.mem = s.mem
  fault : u.fault = s.fault
  mode : u.mode = .running
  ime : u.ime = (s.ime || s.eiPending)
  eiPending : u.eiPending = false
  haltBug : u.haltBug = false

theorem step_of_oneByte {s : State} {i : Instr} (fetches : Fetches s) (noBug : s.haltBug = false)
    (decoded : ∀ x y, decode [s.busRead s.pc, x, y] = .ok (i, [x, y])) (legal : ∀ x, i ≠ illegalInstr x) :
    ∃ u, step s = exec i u ∧ FetchedOneByte s u := by
  obtain ⟨-, executes⟩ := step_of_decode fetches (decoded _ _) legal
  rw [State.fetchSkip, noBug] at executes
  exact ⟨_, executes, BitVec.add_zero _, rfl, rfl, rfl, rfl, rfl, rfl, rfl⟩

/-- The taking of an interrupt clears IME, moves SP down by 2 and goes to a service address (R195, R197). -/
theorem takeInterrupt_atFetch (ifv pending : Byte) :
    let v := s.atFetch.takeInterrupt ifv pending
    v.ime = false ∧ v.sp = s.sp - 2 ∧ ∃ k, v.pc = serviceAddress k := by
  rw [State.takeInterrupt_eq, State.atFetch_eq]
  exact ⟨rfl, rfl, _, rfl⟩

/-! ### A request (R45, R199) -/

theorem getLsbD_setBit (v : Byte) (k : Nat) {i : Nat} (hi : i < 8) : (setBit v k).getLsbD i = if i = k then true else v.getLsbD i :=
  getLsbD_putBit v k true hi

theorem busRead_requestInterrupt (k : Source) (x : Word) : (s.requestInterrupt k).busRead x =
    if x = 0xFF0F#16 then setBit (s.busRead 0xFF0F#16) (sourceBit k) else s.busRead x :=
  s.busRead_deviceWrite ..

/-- A requested source that is enabled is pending (R193). -/
theorem pending_requestInterrupt {k : Source} (enabled : (s.busRead 0xFFFF#16).getLsbD (sourceBit k) = true) :
    (s.requestInterrupt k).pending ≠ 0#8 := by
  have lt := sourceBit_lt k
  refine ne_zero_of_getLsbD (i := sourceBit k) ?_
  rw [State.pending, getLsbD_pendingBits _ _ lt, BitVec.getLsbD_and, ifAddr, ieAddr, busRead_requestInterrupt,
    busRead_requestInterrupt, if_pos rfl, if_neg (by decide), getLsbD_setBit _ _ (by omega), if_pos rfl, enabled]
  rfl

end Sys2Proof.Machine

namespace Sys2Proof.Proofs

open Sys2Proof.Machine Sys2Proof.Claims

/-- Settles O58: an idle step and a dispatch keep the invariant, and an instruction executes with no hidden bit set. -/
theorem stepKeepsInvariant : Obligations.StepKeepsInvariant := by
  intro s t inv next
  obtain ⟨noFault, idles | taken | executes⟩ := step_next next
  · exact idle_inv idles noFault inv
  · exact takesInterrupt_inv taken noFault inv
  · obtain ⟨-, sameFault, mem, flags, running, noEi, noBug⟩ := readyToExecute_atFetch s
    obtain ⟨-, -, keepsMem, keepsFlags⟩ := exec_keeps executes
    refine ⟨keepsMem (mem ▸ inv.mem), keepsFlags ?_, exec_hiddenAgree executes running noEi noBug (sameFault.trans noFault)⟩
    rw [State.lowNibbleClear, flags]
    exact inv.flags

/-- Settles O59: neither the check, the wake, the fetch, a dispatch nor an instruction writes a parameter or the fault. -/
theorem stepKeepsParameters : Obligations.StepKeepsParameters := by
  intro s t next
  obtain ⟨noFault, ⟨-, -, rfl⟩ | taken | executes⟩ := step_next next
  · exact ⟨rfl, noFault⟩
  · obtain ⟨config, fault, -⟩ := takesInterrupt_keeps taken
    exact ⟨config, fault.trans noFault⟩
  · obtain ⟨sameConfig, sameFault, -⟩ := readyToExecute_atFetch s
    obtain ⟨config, fault, -⟩ := exec_keeps executes
    exact ⟨config.trans sameConfig, (fault.trans sameFault).trans noFault⟩

/-- Settles O51: EI makes its effect due, HALT and STOP write the mode, and the others are ordinary. -/
theorem onlyDiAndRetiWriteIme : Obligations.OnlyDiAndRetiWriteIme := fun _ _ _ => exec_keeps_ime

/-- Settles O52: EI executes, then the NOP with IME set at its fetch, and the next step may take an interrupt. -/
theorem eiDelaysByOneInstruction : Obligations.EiDelaysByOneInstruction := by
  intro s noFault running imeOff noEi noBug ei nop
  have noInterrupt {u : State} (off : u.ime = false) : u.ime = true → u.pending = 0#8 := fun on => (nomatch on.symm.trans off)
  obtain ⟨u₁, stepEi, atEi⟩ := step_of_oneByte (i := .ei) ⟨noFault, awake_of_running running, noInterrupt imeOff⟩ noBug
    (fun _ _ => by rw [ei]; rfl) (fun x h => by cases x <;> cases h)
  have stillOff : u₁.ime = false := by rw [atEi.ime, imeOff, noEi]; rfl
  have nop : u₁.busRead u₁.pc = 0x00#8 := by rw [State.busRead_congr atEi.mem, atEi.pc, nop]
  obtain ⟨u₂, stepNop, atNop⟩ := step_of_oneByte (s := { u₁ with eiPending := true }) (i := .nop)
    ⟨atEi.fault.trans noFault, awake_of_running atEi.mode, noInterrupt stillOff⟩ atEi.haltBug
    (fun x y => congrArg (fun op => decode [op, x, y]) nop) (fun x h => by cases x <;> cases h)
  have onNow : u₂.ime = true := atNop.ime.trans (Bool.or_true _)
  have sp : u₂.sp = s.sp := atNop.sp.trans atEi.sp
  have mem : u₂.mem = s.mem := atNop.mem.trans atEi.mem
  refine ⟨_, u₂, stepEi, stillOff, rfl, stepNop, ?pc, sp, onNow, atNop.eiPending, fun pending => ?taken⟩
  case pc =>
    rw [atNop.pc, atEi.pc]
    exact BitVec.add_assoc ..
  case taken =>
    have stillPending : u₂.pending ≠ 0#8 := by
      rwa [State.pending, State.busRead_congr mem, State.busRead_congr mem]
    have fault : u₂.fault = none := (atNop.fault.trans atEi.fault).trans noFault
    rw [← sp]
    exact ⟨_, step_of_interrupt fault (awake_of_running atNop.mode) onNow stillPending, takeInterrupt_atFetch u₂ _ _⟩

/-- Settles O53: a request is one bit written at IF, and an enabled one is pending. -/
theorem deviceRequestWakesHaltedCore : Obligations.DeviceRequestWakesHaltedCore := by
  intro s k
  refine ⟨fun i hi => ?_, fun x hx => ?_, rfl, fun halted enabled => ?_⟩
  · rw [busRead_requestInterrupt, if_pos rfl, getLsbD_setBit _ _ hi]
  · rw [busRead_requestInterrupt, if_neg hx]
  · have stillHalted : (s.requestInterrupt k).mode = .halted := halted
    rw [State.awake, stillHalted]
    exact bne_iff_ne.mpr (pending_requestInterrupt s enabled)

/-- Settles O55: `reset()` writes the hidden bits and the fault, and no byte. -/
theorem resetLeavesTheBus : Obligations.ResetLeavesTheBus :=
  ⟨fun _ => ⟨rfl, rfl, rfl, rfl, fun _ => rfl, rfl⟩, State.resetCore_reset, fun _ => rfl⟩

/-- Settles O57: after `reset()` no hidden bit is set and no byte is listed. -/
theorem resetMeetsInvariant : Obligations.ResetMeetsInvariant :=
  ⟨rfl, rfl, fun bug => (nomatch bug), fun lowPower => absurd rfl lowPower, fun _ fault => (nomatch fault)⟩

end Sys2Proof.Proofs
end

section
/-! The round trip of the encoder and the decoder (30_encoding.md, R46 to R59): every rule's rows stand in the maps where its encoding
line says. -/

namespace Sys2Proof.Machine

open Sys2Proof.Claims

/-- A row says that the decoder reads the instruction from its own encoding. -/
theorem decode_encode_of_row {i : Instr} {bytes : List Byte} {cycles : Nat} (row : Row i bytes cycles) :
    decode (encode i) = .ok (i, []) := by
  obtain ⟨decoded, encoded, -⟩ := row
  rw [encoded, decoded]

theorem exists_bytes_of_word (v : Word) : ∃ hi lo : Byte, v = hi ++ lo :=
  ⟨highByte v, lowByte v, (joinBytes_highByte_lowByte v).symm⟩

/-- An instruction with a word operand, by its entry in the base map. -/
theorem decode_opWord_of_entry {op : Byte} {mk : Word → Instr} (entry : ∀ x y, decodeBytes op x y = mk (joinBytes y x))
    (length : instrLength op = 3) (v : Word) : decode (opWord op v) = .ok (mk v, []) := by
  have decoded := decode_opWord v [] length
  rwa [List.append_nil, entry, joinBytes_highByte_lowByte] at decoded

/-- The decoder reads every well-formed instruction from its encoding. -/
theorem decode_encode {i : Instr} (h : WellFormed i) : decode (encode i) = .ok (i, []) := by
  induction i using Instr.byRule
  case prefixCb k => exact absurd h Bool.false_ne_true
  case ldRegReg dst src => exact decode_encode_of_row (ldRegRegRow dst src)
  case ldRegImm dst n => exact decode_encode_of_row (ldRegImmRow dst n)
  case ldRegAtHl dst => exact decode_encode_of_row (ldRegAtHlRow dst)
  case ldAtHlReg src => exact decode_encode_of_row (ldAtHlRegRow src)
  case incReg r => exact decode_encode_of_row (incRegRow r)
  case decReg r => exact decode_encode_of_row (decRegRow r)
  case addHlPair p => exact decode_encode_of_row (addHlPairRow p)
  case incPair p => exact decode_encode_of_row (incPairRow p)
  case decPair p => exact decode_encode_of_row (decPairRow p)
  case pushPair p => exact decode_encode_of_row (pushPairRow p)
  case popPair p => exact decode_encode_of_row (popPairRow p)
  case shiftRegInstr op r => exact decode_encode_of_row (shiftRegRow op r)
  case shiftAtHlInstr op => exact decode_encode_of_row (shiftAtHlRow op)
  case bitRegInstr k r => exact decode_encode_of_row (bitRegRow k r)
  case bitAtHlInstr k => exact decode_encode_of_row (bitAtHlRow k)
  case resRegInstr k r => exact decode_encode_of_row (resRegRow k r)
  case resAtHlInstr k => exact decode_encode_of_row (resAtHlRow k)
  case setRegInstr k r => exact decode_encode_of_row (setRegRow k r)
  case setAtHlInstr k => exact decode_encode_of_row (setAtHlRow k)
  case jrCond cc e => exact decode_encode_of_row (jrCondRow cc e)
  case retCond cc => exact decode_encode_of_row (retCondRow cc)
  case rstInstr y => exact decode_encode_of_row (rstRow y)
  case aluReg op r =>
    obtain ⟨reg, -, -⟩ := aluRows op
    exact decode_encode_of_row (reg r)
  case aluAtHl op =>
    obtain ⟨-, atHl, -⟩ := aluRows op
    exact decode_encode_of_row atHl
  case aluImm op n =>
    obtain ⟨-, -, imm⟩ := aluRows op
    exact decode_encode_of_row (imm n)
  case ldPairImm p n =>
    obtain ⟨hi, lo, rfl⟩ := exists_bytes_of_word n
    exact decode_encode_of_row (ldPairImmRow p hi lo)
  case jpCond cc a =>
    obtain ⟨hi, lo, rfl⟩ := exists_bytes_of_word a
    exact decode_encode_of_row (jpCondRow cc hi lo)
  case callCond cc a =>
    obtain ⟨hi, lo, rfl⟩ := exists_bytes_of_word a
    exact decode_encode_of_row (callCondRow cc hi lo)
  case illegalInstr k => cases k <;> rfl
  case ldAAtA16 a => exact decode_opWord_of_entry (op := 0xFA) (fun _ _ => rfl) rfl a
  case ldAtA16A a => exact decode_opWord_of_entry (op := 0xEA) (fun _ _ => rfl) rfl a
  case ldAtA16Sp a => exact decode_opWord_of_entry (op := 0x08) (fun _ _ => rfl) rfl a
  case jpA16 a => exact decode_opWord_of_entry (op := 0xC3) (fun _ _ => rfl) rfl a
  case callA16 a => exact decode_opWord_of_entry (op := 0xCD) (fun _ _ => rfl) rfl a
  -- An instruction that stands alone, without a word operand, is one entry of the base map.
  all_goals rfl

end Sys2Proof.Machine

namespace Sys2Proof.Proofs

open Sys2Proof.Machine

/-- Settles O2: an instruction is read from its encoding, whatever follows it. -/
theorem decodeOfEncode : Obligations.DecodeOfEncode := fun _ rest wellFormed => decode_append (decode_encode wellFormed) rest

end Sys2Proof.Proofs
end
